-- ==== Sys2Proof/Word.lean ====
section
/-! DEFINITION. The fixed parameters of the core (00_scope.md R6) and the words of the core, whose widths and counts
are taken from them (10_state.md R10, 30_encoding.md R60). Bit 0 is the least significant bit everywhere (00_scope.md
R9). -/

namespace Sys2Proof

/-- The parameters the document fixes (Table R6), each with the document's value. An audit of the literals changes them
here and nowhere else (92_eei_decisions.md D31): the widths and counts below, and through them the state, the ports
and the operations, follow. -/
structure FixedParams where
  /-- `N_TICKS`: ticks in one Time Base pass. -/
  nTicks : Nat := 228
  /-- `TICK_MAX`: `N_TICKS` - 1, the largest value an AxisSample can hold. -/
  tickMax : Nat := nTicks - 1
  /-- `N_AXES`: X and Y. -/
  nAxes : Nat := 2
  /-- `SAMPLE_BITS`: the width of an AxisSample. -/
  sampleBits : Nat := 8
  /-- `N_ROWS`: row-drive lines. -/
  nRows : Nat := 4
  /-- `N_COLS`: column-sense lines, the width of one RowSnapshot element. -/
  nCols : Nat := 4
  /-- `CLASS_THRESHOLD`: Joystick iff the released-phase samples are strictly greater. -/
  classThreshold : Nat := 220
  /-- `DWELL_TICKS`: the row dwell, in tick periods. -/
  dwellTicks : Nat := 2
  /-- `SETTLE_TIME`, in nanoseconds (16 ms). -/
  settleTimeNs : Nat := 16000000
  /-- `V_REF`, in millivolts (about 2.29 V). It belongs to the comparators, outside the core. -/
  vRefMillivolt : Nat := 2290
  /-- The rail `V_REF` is given on (the same row of Table R6), in millivolts (5 V). -/
  vRefRailMillivolt : Nat := 5000
  deriving DecidableEq, Repr

/-- The core's fixed parameters: Table R6. -/
abbrev fixedParams : FixedParams := {}

/-- One microword (R60): `OP` in bits 7:4, `Z` in bits 3:2, `R` in bits 1:0. -/
abbrev Microword := BitVec 8

/-- The micro-program counter `UPC` (R11). -/
abbrev Upc := BitVec 6

/-- A tick number, `SAMPLE_BITS` wide: `TICK` (R13) and the AxisSample registers (R14), plain unsigned binary (R72). -/
abbrev Sample := BitVec fixedParams.sampleBits

/-- One element of the RowSnapshot, and the column port (R15, R24), `N_COLS` wide: bit `c` is column `c`, 0 = pressed
(R71). -/
abbrev Mask := BitVec fixedParams.nCols

/-- A row number, 0 to `N_ROWS` - 1 (R62). -/
abbrev RowIdx := Fin fixedParams.nRows

/-- A column number, 0 to `N_COLS` - 1 (R71). -/
abbrev ColIdx := Fin fixedParams.nCols

/-- An axis, 0 to `N_AXES` - 1. -/
abbrev AxisIdx := Fin fixedParams.nAxes

/-- The axis the rules call X: `AXIS_X`, `CAPX`, `CMPX_TRIP` are element `xAxis`. -/
abbrev xAxis : AxisIdx := 0

/-- The axis the rules call Y: `AXIS_Y`, `CAPY`, `CMPY_TRIP` are element `yAxis`. -/
abbrev yAxis : AxisIdx := 1

/-- One thing for each row: `ROW[0..3]`, `ROWL[0..3]` (R15, R19, R41). -/
abbrev PerRow (α : Type) := Vector α fixedParams.nRows

/-- One thing for each column. -/
abbrev PerCol (α : Type) := Vector α fixedParams.nCols

/-- One thing for each axis, X first (R14, R18, R24). -/
abbrev PerAxis (α : Type) := Vector α fixedParams.nAxes

end Sys2Proof
end

