-- ==== Sys2Proof/Config.lean ====
section
/-! DEFINITION. The open parameters of the core (00_scope.md R7, R8), the fixed microprogram (30_encoding.md R66), and
the free values: what the environment puts on the input ports (00_scope.md R5). -/

namespace Sys2Proof

/-- The parameters the document leaves open and the core's steps use (Table R7, its first seven rows), each with the
default the spec gives it. They change durations and nothing else (R7, R180). `CYCLE_TIME` is a rational number of
nanoseconds: R7 asks only that it be positive, and that it is a fraction is the model's choice (log 20). -/
structure OpenParams where
  /-- `TICK_CYCLES`. -/
  tickCycles : Nat := 64
  /-- `DWELL_CYCLES`: by default `DWELL_TICKS` × `TICK_CYCLES`. -/
  dwellCycles : Nat := fixedParams.dwellTicks * tickCycles
  /-- `CYCLE_TIME`, in nanoseconds (about 1 microsecond). -/
  cycleTimeNs : Rat := 1000
  /-- `SETTLE_CYCLES`: by default `SETTLE_TIME` / `CYCLE_TIME`, in whole cycles. -/
  settleCycles : Nat := fixedParams.settleTimeNs * cycleTimeNs.den / cycleTimeNs.num.toNat
  /-- `OP_CYCLES`. -/
  opCycles : Nat := 1
  /-- `CLASSIFY_CYCLES`. -/
  classifyCycles : Nat := 1
  /-- `REPORT_CYCLES`. -/
  reportCycles : Nat := 1
  deriving DecidableEq, Repr

/-- The defaults of Table R7. -/
def defaultParams : OpenParams := {}

/-- `CMP_SENSE` (Table R7, 92_eei_decisions.md D9): what a comparator presents as "tripped". It belongs to the
environment; no rule of the core reads it (41_digitizer.md R90). -/
inductive CmpSense where
  | levelBeforeCrossing
  | levelAfterCrossing
  | edge
  deriving DecidableEq, Repr

/-- The number of words of the microprogram ROM (20_memory.md R42). -/
def romWords : Nat := 46

/-- The words of one scan: Table R66, addresses 0 to 15 and again 29 to 44. -/
def scanWords : List Microword :=
  [0x03, 0x10, 0x20, 0x30, 0x00, 0x11, 0x20, 0x31, 0x01, 0x12, 0x20, 0x32, 0x02, 0x13, 0x20, 0x33]

/-- The words of phase MeasureReleased: Table R66, addresses 16 to 21. -/
def measureReleasedWords : List Microword := [0x40, 0x60, 0x70, 0x80, 0x90, 0xA0]

/-- The words of phase MeasureAsserted: Table R66, addresses 23 to 28. -/
def measureAssertedWords : List Microword := [0x50, 0x60, 0x70, 0x80, 0x90, 0xA0]

/-- The microprogram ROM: exactly the 46 words of Table R66, one outer cycle. -/
def microprogram : List Microword :=
  scanWords ++ measureReleasedWords ++ [0xB0] ++ measureAssertedWords ++ scanWords ++ [0xC0]

/-! ### Free values

The environment may present any value on an input port at the step that reads it (R5, 60_exceptions.md R156). Where
a state carries no scheduled inputs any more, the value read at step number `n` is one of these constants applied to
`n`. They have no body: nothing can be proved about a value of one. -/

/-- The comparator output of an axis, `CMPX_TRIP` or `CMPY_TRIP`, at step number `n`. -/
opaque Config.freeCmpTrip : Nat → AxisIdx → Bool

/-- `COL` at step number `n`. -/
opaque Config.freeCol : Nat → Mask

/-- `TOP_N` at step number `n`. -/
opaque Config.freeTopN : Nat → Bool

/-- `BOT_N` at step number `n`. -/
opaque Config.freeBotN : Nat → Bool

end Sys2Proof
end

