-- ==== Sys2Proof/Syntax.lean ====
section
/-! DEFINITION. The thirteen micro-operations (30_encoding.md Table R61): one constructor per row of the opcode table. -/

namespace Sys2Proof

/-- The micro-operations of APE-CORE-U13 (00_scope.md R2). The row operand is the only operand there is (R62); its
type holds exactly the four legal values. -/
inductive Instr where
  /-- Release row line `r` (R105). -/
  | rowrel (r : RowIdx)
  /-- Drive row line `r` low (R106). -/
  | rowdrv (r : RowIdx)
  /-- Hold the row dwell (R107). -/
  | dwell
  /-- Sample the four columns into `ROW[r]` (R108). -/
  | colsmp (r : RowIdx)
  /-- Release the control line (R122). -/
  | cavrel
  /-- Assert the control line (R123). -/
  | cavasr
  /-- Wait the settle delay (R124). -/
  | settle
  /-- Release both capacitor lines (R95). -/
  | caprel
  /-- Reset the tick counter (R80). -/
  | tbrst
  /-- Run one tick of a Time Base pass (R81). -/
  | tbrun
  /-- Discharge both capacitor lines (R96). -/
  | capdis
  /-- Classify the device and emit the tag (R125). -/
  | classify
  /-- Read the buttons, emit the report and restart the cycle (R128). -/
  | report
  deriving DecidableEq, Repr

end Sys2Proof
end

