-- ==== Sys2Proof/WellFormed.lean ====
section
/-! DEFINITION. What a well-formed microword, instruction, parameter set and microprogram is: the field checks of
30_encoding.md R60 to R65, the bounds of Table R7, and the ordering requirements of 70_reset_and_hazards.md
R171 to R175 that anyone who changes the microprogram must keep. -/

namespace Sys2Proof

/-! ### Microwords -/

/-- R65: the words that stand for an operation. `OP` (the word's number divided by 16) is at most 0xC, `Z` is 0, and
the operation has a row operand (`OP` 0x0, 0x1 or 0x3) or `R` is 0. -/
def Microword.valid (w : Microword) : Bool :=
  decide (w.toNat / 16 ≤ 0xC) && w.toNat / 4 % 4 == 0 &&
  (w.toNat / 16 == 0x0 || w.toNat / 16 == 0x1 || w.toNat / 16 == 0x3 || w.toNat % 4 == 0)

/-! ### Instructions -/

/-- A row operand is one of the `N_ROWS` rows (R62); the type `RowIdx` admits no other, so every term of `Instr` is
well formed. -/
def Instr.wellFormed : Instr → Bool
  | .rowrel r => decide (r.val < fixedParams.nRows)
  | .rowdrv r => decide (r.val < fixedParams.nRows)
  | .colsmp r => decide (r.val < fixedParams.nRows)
  | .dwell => true
  | .cavrel => true
  | .cavasr => true
  | .settle => true
  | .caprel => true
  | .tbrst => true
  | .tbrun => true
  | .capdis => true
  | .classify => true
  | .report => true

/-! ### Parameters -/

/-- The bounds of Table R7: every duration at least one cycle, the cycle time positive. -/
def OpenParams.wellFormed (c : OpenParams) : Bool :=
  decide (1 ≤ c.tickCycles) && decide (1 ≤ c.dwellCycles) && decide (0 < c.cycleTimeNs.num) &&
  decide (1 ≤ c.settleCycles) && decide (1 ≤ c.opCycles) && decide (1 ≤ c.classifyCycles) &&
  decide (1 ≤ c.reportCycles)

/-- The two relations between parameters that 92_eei_decisions.md asks an instance to meet: the dwell is
`DWELL_TICKS` ticks (D6) and `SETTLE_CYCLES` cycles of `CYCLE_TIME` last `SETTLE_TIME` (D7), said of the fraction
`CYCLE_TIME` is so that it can be computed. -/
def OpenParams.calibrated (c : OpenParams) : Bool :=
  c.dwellCycles == fixedParams.dwellTicks * c.tickCycles &&
  decide ((c.settleCycles : Int) * c.cycleTimeNs.num = fixedParams.settleTimeNs * c.cycleTimeNs.den)

/-! ### Microprograms

A microprogram is read here as a list of operations in address order, started from the reset state of the lines. -/

/-- R66, R67: a microprogram fits the addresses the ROM has. -/
def Program.fits (p : List Instr) : Bool := decide (p.length ≤ romWords)

/-- R171 and R81 (f): every TBRUN stands immediately after a TBRST; `armed` says whether the word before is one. -/
def Program.passesArmed (armed : Bool) : List Instr → Bool
  | [] => true
  | .tbrun :: p => armed && passesArmed false p
  | .tbrst :: p => passesArmed true p
  | _ :: p => passesArmed false p

/-- R172: every ROWDRV stands immediately after the ROWREL of the one row that can be driven, which is the row the
ROWDRV before it drove; while no ROWDRV came before, no row can be driven and any ROWREL serves. `last` is the row last
driven, `released` the row a ROWREL directly before released. -/
def Program.releaseBeforeDrive (last released : Option RowIdx) : List Instr → Bool
  | [] => true
  | .rowrel r :: p => releaseBeforeDrive last (some r) p
  | .rowdrv r :: p => released.isSome && (last == none || released == last) && releaseBeforeDrive (some r) none p
  | _ :: p => releaseBeforeDrive last none p

/-- R173: COLSMP `r` stands immediately after ROWDRV `r`; DWELL. `drv` is the row a ROWDRV directly before drove,
`dwelt` the row a ROWDRV and a DWELL directly before made ready. -/
def Program.dwellBeforeSample (drv dwelt : Option RowIdx) : List Instr → Bool
  | [] => true
  | .rowdrv r :: p => dwellBeforeSample (some r) none p
  | .dwell :: p => dwellBeforeSample none drv p
  | .colsmp r :: p => dwelt == some r && dwellBeforeSample none none p
  | _ :: p => dwellBeforeSample none none p

/-- R174: between a change of the control line and the next CAPREL stands a SETTLE. -/
def Program.settleBeforePass (settled : Bool) : List Instr → Bool
  | [] => true
  | .cavrel :: p => settleBeforePass false p
  | .cavasr :: p => settleBeforePass false p
  | .settle :: p => settleBeforePass true p
  | .caprel :: p => settled && settleBeforePass settled p
  | _ :: p => settleBeforePass settled p

/-- R175: the capacitor lines are driven low when a CAPREL releases them. -/
def Program.dischargeBeforeRelease (low : Bool) : List Instr → Bool
  | [] => true
  | .caprel :: p => low && dischargeBeforeRelease false p
  | .capdis :: p => dischargeBeforeRelease true p
  | _ :: p => dischargeBeforeRelease low p

/-- One round of a microprogram: the words up to and with its first REPORT, which sends `UPC` back to 0 (R128); none
where it has no REPORT, so that it never starts again. -/
def Program.round? : List Instr → Option (List Instr)
  | [] => none
  | .report :: _ => some [.report]
  | i :: p => (round? p).map (i :: ·)

/-- The words in the order a run from address 0 executes them: two rounds where the program restarts (a further round
meets what the second met), else all of them once. -/
def Program.executed (p : List Instr) : List Instr :=
  match Program.round? p with
  | some c => c ++ c
  | none => p

/-- The ordering requirements R171 to R175 on a list of operations in execution order, from the reset state (R161: no
row driven, the capacitor lines low, the control line at rest). -/
def Program.ordered (p : List Instr) : Bool :=
  Program.passesArmed false p && Program.releaseBeforeDrive none none p && Program.dwellBeforeSample none none p &&
  Program.settleBeforePass true p && Program.dischargeBeforeRelease true p

/-- A microprogram that keeps every ordering requirement, both in the order its words are executed, restarts included,
and in address order, so that words no run reaches keep them too. -/
def Program.wellFormed (p : List Instr) : Bool :=
  p.all Instr.wellFormed && Program.fits p && Program.ordered p && Program.ordered (Program.executed p)

end Sys2Proof
end

