-- ==== Sys2Proof/Decode.lean ====
section
/-! DEFINITION. The decoder (30_encoding.md R65, total on the 256 microwords) and the encoder (R61, R74). -/

namespace Sys2Proof

/-- Field `OP`, bits 7:4 (R60). -/
def Microword.op (w : Microword) : BitVec 4 := w.extractLsb' 4 4

/-- Field `Z`, bits 3:2 (R60). -/
def Microword.z (w : Microword) : BitVec 2 := w.extractLsb' 2 2

/-- Field `R`, bits 1:0 (R60, R62). -/
def Microword.r (w : Microword) : RowIdx := (w.extractLsb' 0 2).toFin

/-- Why a microword is reserved (R65). -/
inductive Reserved where
  /-- `OP` is 0xD, 0xE or 0xF. -/
  | opcode
  /-- `Z` is not 0. -/
  | zField
  /-- `R` is not 0 in an operation without a row operand. -/
  | rField
  deriving DecidableEq, Repr

/-- What the decoder answers. -/
inductive Decoded where
  | instr (i : Instr)
  | reserved (why : Reserved)
  deriving DecidableEq, Repr

/-- An operation without operand: its `R` field must be 0 (R63). -/
def plainOp (w : Microword) (i : Instr) : Decoded :=
  if w.r = 0 then .instr i else .reserved .rField

/-- The operation Table R61 gives an `OP` code, for a word whose `Z` field is 0. -/
def decodeOp (w : Microword) : Nat → Decoded
  | 0x0 => .instr (.rowrel w.r)
  | 0x1 => .instr (.rowdrv w.r)
  | 0x2 => plainOp w .dwell
  | 0x3 => .instr (.colsmp w.r)
  | 0x4 => plainOp w .cavrel
  | 0x5 => plainOp w .cavasr
  | 0x6 => plainOp w .settle
  | 0x7 => plainOp w .caprel
  | 0x8 => plainOp w .tbrst
  | 0x9 => plainOp w .tbrun
  | 0xA => plainOp w .capdis
  | 0xB => plainOp w .classify
  | 0xC => plainOp w .report
  | _ => .reserved .opcode

/-- The decoder: R60 to R65. -/
def decode (w : Microword) : Decoded :=
  if w.z = 0 then decodeOp w w.op.toNat else .reserved .zField

/-- The `OP` code of an operation (Table R61). -/
def Instr.opcode : Instr → Nat
  | .rowrel _ => 0x0
  | .rowdrv _ => 0x1
  | .dwell => 0x2
  | .colsmp _ => 0x3
  | .cavrel => 0x4
  | .cavasr => 0x5
  | .settle => 0x6
  | .caprel => 0x7
  | .tbrst => 0x8
  | .tbrun => 0x9
  | .capdis => 0xA
  | .classify => 0xB
  | .report => 0xC

/-- The `R` field of an operation: its row operand, else 0 (R62, R63). -/
def Instr.rField : Instr → Nat
  | .rowrel r => r.val
  | .rowdrv r => r.val
  | .colsmp r => r.val
  | .dwell => 0
  | .cavrel => 0
  | .cavasr => 0
  | .settle => 0
  | .caprel => 0
  | .tbrst => 0
  | .tbrun => 0
  | .capdis => 0
  | .classify => 0
  | .report => 0

/-- The encoder: the assembler function of R74, `OP` × 16 + `r`. -/
def encode (i : Instr) : Microword := BitVec.ofNat 8 (i.opcode * 16 + i.rField)

/-- The instruction the decoder reads from an opcode-table word of `nbits` bits (every row of the table is one
8-bit microword, R60). A word longer than a microword is none. -/
def decodeTableWord (nbits w : Nat) : Option Instr :=
  if nbits ≤ 8 then
    match decode (BitVec.ofNat 8 (w % 2 ^ nbits)) with
    | .instr i => some i
    | .reserved _ => none
  else none

end Sys2Proof
end

