-- ==== Sys2Proof/Machine/State.lean ====
section
/-! DEFINITION. The state of the core (10_state.md R10, 18 elements), its two ghost elements (R27, R28), and the
parameters of the step function that R29 keeps outside the hardware's state (ROM, configuration, input draws), which
stand here because a step takes nothing but a State. All of it is plain data. -/

namespace Sys2Proof.Machine

/-- The latch of a line that is released or driven low: capacitor lines (R18) and row lines (R19). -/
inductive PullLine where
  /-- `REL`: not driven. -/
  | rel
  /-- `LOW`: driven to 0. -/
  | low
  deriving DecidableEq, Repr

/-- The latch of the control line: released or driven high (R20). -/
inductive CtlLine where
  /-- `REL`: released, not driven. -/
  | rel
  /-- `HIGH`: asserted, driven to 1. -/
  | high
  deriving DecidableEq, Repr

/-- DeviceClass (R16); its 1-bit code is R70's. -/
inductive DeviceClass where
  | trackBall
  | joystick
  deriving DecidableEq, Repr

/-- The nine fields of a `Report` event, in the order of R73. -/
structure Report where
  cls : DeviceClass
  x : Sample
  y : Sample
  row0 : Mask
  row1 : Mask
  row2 : Mask
  row3 : Mask
  /-- Level of the top button line: true = 1 = high = not pressed. -/
  topl : Bool
  /-- Level of the bottom button line: true = 1 = high = not pressed. -/
  botl : Bool
  deriving DecidableEq, Repr

/-- What the core hands to the report sink (R27). -/
inductive Event where
  | tag (c : DeviceClass)
  | report (r : Report)
  deriving DecidableEq, Repr

/-- The input draws of one step (R24, R120): the reset input and the five input ports. `true` is 1. -/
structure Inputs where
  /-- `RST`, true = active (70_reset_and_hazards.md R160). -/
  rst : Bool
  /-- `CMPX_TRIP` and `CMPY_TRIP`, one for each axis. -/
  cmpTrip : PerAxis Bool
  /-- `COL`; bit `c` is column `c`, 1 = high = idle. -/
  col : Mask
  /-- `TOP_N`, false = pressed. -/
  topN : Bool
  /-- `BOT_N`, false = pressed. -/
  botN : Bool
  deriving DecidableEq, Repr

/-- The machine. -/
structure State where
  /-- `UPC`, the micro-program counter (R11). -/
  upc : Upc
  /-- `TICK`, the TimeTick (R13). -/
  tick : Sample
  /-- The AxisSample registers, one for each axis: `AXIS_X` and `AXIS_Y` (R14). -/
  axis : PerAxis Sample
  /-- `ROW[0..3]`, the RowSnapshot (R15). -/
  row : PerRow Mask
  /-- `CLASS`, the DeviceClass (R16). -/
  cls : DeviceClass
  /-- `TOPL` (R17): true = line high = released. -/
  topl : Bool
  /-- `BOTL` (R17): true = line high = released. -/
  botl : Bool
  /-- The capacitor-line latches, one for each axis: `CAPX` and `CAPY` (R18). -/
  cap : PerAxis PullLine
  /-- `ROWL[0..3]`, the row-drive latches (R19). -/
  rowl : PerRow PullLine
  /-- `CAV`, the control-line latch (R20). -/
  cav : CtlLine
  /-- `CYC`, ghost: clock cycles since the release of reset (R28). -/
  cyc : Nat
  /-- `OUT`, ghost: the events emitted since reset, oldest first (R27). -/
  out : List Event
  /-- The microprogram `ROM`, word `a` at position `a`. No operation writes it (R42). The core's own is
  `microprogram`; another one makes the model whose ROM is a parameter (R77). -/
  rom : List Microword
  /-- The instance's open parameters (Table R7). No operation writes them (R8). -/
  cfg : OpenParams
  /-- The model's own: the input draws of the next steps, one entry a step, the next step's first. When it is empty
  the ports read the free values of Config at `stepNo`, and `RST` is not active. -/
  inputs : List Inputs
  /-- The model's own: how many steps were taken, the argument of the free values. -/
  stepNo : Nat
  deriving DecidableEq, Repr

/-- The core has no fault of any kind: R140 (no exception cause exists), 93_implementation_defined.md ("fault and
stuck are not used"). -/
inductive Fault
  deriving DecidableEq, Repr

/-- The situations the spec gives no meaning (R141): the model stops with a named reason. None is a hardware event and
none can be reached from reset with the core's own ROM. Every one is safe: no claim is made about what would follow. -/
inductive Refusal where
  /-- No meaning in this model for the instruction; raised by no arm. Safe. -/
  | notModelled (mnemonic : String)
  /-- `refuse(reserved_microword)`: the word at `UPC` stands for no operation (R65). Raised by the fetch. Safe. -/
  | reservedMicroword
  /-- `refuse(upc_out_of_rom)`: `UPC` addresses no word of the ROM (R67, R77). Raised by the fetch. Safe. -/
  | upcOutOfRom
  /-- `refuse(tbrun_without_tbrst)`: TBRUN begun with `TICK` >= `N_TICKS` (R81 f). Raised by TBRUN. Safe. -/
  | tbrunWithoutTbrst
  /-- `refuse(row_contention)`: ROWDRV would make a second row `LOW` (R106). Raised by ROWDRV. Safe. -/
  | rowContention
  deriving DecidableEq, Repr

/-- The reset state: Table R32, with the core's ROM (R66) and the defaults of Table R7, no input scheduled. -/
def State.reset : State where
  upc := 0
  tick := 0
  axis := Vector.replicate fixedParams.nAxes 0
  row := Vector.replicate fixedParams.nRows (BitVec.allOnes fixedParams.nCols)
  cls := .trackBall
  topl := true
  botl := true
  cap := Vector.replicate fixedParams.nAxes .low
  rowl := Vector.replicate fixedParams.nRows .rel
  cav := .rel
  cyc := 0
  out := []
  rom := microprogram
  cfg := defaultParams
  inputs := []
  stepNo := 0

end Sys2Proof.Machine
end

