-- ==== Sys2Proof/Machine/Flags.lean ====
section
/-! DEFINITION. The one flag-like value of the core, `CLASS` (10_state.md R16), and the capture enable of the two
sample registers (41_digitizer.md R92). The core has no carry, zero or overflow flag. -/

namespace Sys2Proof.Machine

/-- R125, R126: Joystick iff the samples of both axes are strictly above `CLASS_THRESHOLD`, as unsigned numbers. -/
def classOf (axis : PerAxis Sample) : DeviceClass :=
  if ∀ a : AxisIdx, fixedParams.classThreshold < (axis.get a).toNat then .joystick else .trackBall

/-- R70: the 1-bit code of a class, 1 = Joystick. -/
def DeviceClass.code : DeviceClass → BitVec 1
  | .trackBall => 0
  | .joystick => 1

/-- R92: the sample register after a poll: the tick where the channel tripped, else its old value. -/
def captured (trip : Bool) (tick old : Sample) : Sample := if trip then tick else old

end Sys2Proof.Machine
end

