-- ==== Sys2Proof/Machine/Operands.lean ====
section
/-! DEFINITION. The only operand form of the core: a row number that selects one of the row latches or one of the
RowSnapshot elements (30_encoding.md R62, 20_memory.md R41). -/

namespace Sys2Proof.Machine

/-- Replace element `r`, every other unchanged (R41). -/
def setAt {α : Type} (a : PerRow α) (r : RowIdx) (v : α) : PerRow α := a.set r v

/-- Some row other than `r` is driven low: the premise under which ROWDRV `r` has no meaning (R106). -/
def otherRowLow (rowl : PerRow PullLine) (r : RowIdx) : Bool :=
  decide (∃ q : RowIdx, q ≠ r ∧ rowl.get q = .low)

end Sys2Proof.Machine
end

