-- ==== Sys2Proof/Machine/Ops.lean ====
section
/-! DEFINITION. The named operations every meaning is built of: reading the input draws, the writes of R22's table,
the control transfers of R121, the fetch of R120, and taking a reset (R160), the core's only outside event. The core
has no exception to take and none to return from (60_exceptions.md R140, R146, R147). -/

namespace Sys2Proof.Machine

/-! ### Input draws -/

/-- The draws of step number `n` where none is scheduled: free values on the five ports, `RST` not active. -/
def Inputs.free (n : Nat) : Inputs where
  rst := false
  cmpTrip := Vector.ofFn (Config.freeCmpTrip n)
  col := Config.freeCol n
  topN := Config.freeTopN n
  botN := Config.freeBotN n

/-- `in`: the input draws of the next step (R120). Reading them has no side effect (R48). -/
def State.draw (s : State) : Inputs :=
  match s.inputs with
  | [] => Inputs.free s.stepNo
  | i :: _ => i

/-- The input draws of the step `k` steps from now. -/
def State.drawAt (s : State) (k : Nat) : Inputs :=
  match s.inputs[k]? with
  | some i => i
  | none => Inputs.free (s.stepNo + k)

/-- One step's draws are used up. -/
def State.advanceInputs (s : State) : State :=
  { s with inputs := s.inputs.tail, stepNo := s.stepNo + 1 }

/-! ### Control transfer (R121) and duration (R180) -/

/-- Fall through: `UPC <- UPC + 1`, the step lasting `n` clock cycles. -/
def State.fallThrough (s : State) (n : Nat) : State := { s with upc := s.upc + 1, cyc := s.cyc + n }

/-- Restart: `UPC <- 0`, the step lasting `n` clock cycles. -/
def State.restart (s : State) (n : Nat) : State := { s with upc := 0, cyc := s.cyc + n }

/-! ### Writes -/

/-- `ROWL[r] <- v`. -/
def State.setRowl (s : State) (r : RowIdx) (v : PullLine) : State := { s with rowl := setAt s.rowl r v }

/-- `ROW[r] <- v`. -/
def State.setRow (s : State) (r : RowIdx) (v : Mask) : State := { s with row := setAt s.row r v }

/-- `CAPX <- v`; `CAPY <- v`: the lines of every axis in one step (R95, R96). -/
def State.setCaps (s : State) (v : PullLine) : State := { s with cap := Vector.replicate fixedParams.nAxes v }

/-- `CAV <- v`. -/
def State.setCav (s : State) (v : CtlLine) : State := { s with cav := v }

/-- `TICK <- v`. -/
def State.setTick (s : State) (v : Sample) : State := { s with tick := v }

/-- `CLASS <- c`. -/
def State.setCls (s : State) (c : DeviceClass) : State := { s with cls := c }

/-- `TOPL <- t`; `BOTL <- b`. -/
def State.setButtons (s : State) (t b : Bool) : State := { s with topl := t, botl := b }

/-- `emit e` (R27): append to the output trace. -/
def State.emit (s : State) (e : Event) : State := { s with out := s.out ++ [e] }

/-- Where `UPC` goes after a tick: on to the next word when the tick just made was the last, else nowhere (R81). -/
def State.tickTarget (s : State) : Upc :=
  if s.tick.toNat + 1 = fixedParams.nTicks then s.upc + 1 else s.upc

/-- One tick of a pass (R81, R92) with the polls `trip`: the captures, the count and the control transfer, all from
the values before the step. -/
def State.runTick (s : State) (trip : PerAxis Bool) : State :=
  { s with
    axis := Vector.ofFn fun a => captured (trip.get a) s.tick (s.axis.get a)
    tick := s.tick + 1
    upc := s.tickTarget
    cyc := s.cyc + s.cfg.tickCycles }

/-- The `Report` event of the state with the button levels `t` and `b` (R128, R129). -/
def State.reportOf (s : State) (t b : Bool) : Report where
  cls := s.cls
  x := s.axis.get xAxis
  y := s.axis.get yAxis
  row0 := s.row.get 0
  row1 := s.row.get 1
  row2 := s.row.get 2
  row3 := s.row.get 3
  topl := t
  botl := b

/-! ### Fetch (R120) -/

/-- The instruction the sequencer fetches: R67 refuses a `UPC` beyond the ROM's addresses, R77 one beyond the
program, R65 a reserved word. -/
def State.fetch (s : State) : Except Refusal Instr :=
  if romWords ≤ s.upc.toNat then .error .upcOutOfRom
  else
    match s.rom[s.upc.toNat]? with
    | none => .error .upcOutOfRom
    | some w =>
      match decode w with
      | .instr i => .ok i
      | .reserved _ => .error .reservedMicroword

/-- Apply `f` to the next state of an outcome. -/
def mapNext (f : State → State) : Host.Outcome State Fault Refusal → Host.Outcome State Fault Refusal
  | .next t => .next (f t)
  | .fault r => .fault r
  | .refused r => .refused r

/-! ### Reset (R160, R145) -/

/-- A step with `RST` active: every element takes the value of Table R32. The instance (ROM, parameters) is what it
was, and the environment's draws go on. -/
def State.takeReset (s : State) : State :=
  { State.reset with rom := s.rom, cfg := s.cfg, inputs := s.inputs.tail, stepNo := s.stepNo + 1 }

/-! ### Placing a program word (R77: a model whose ROM is a parameter) -/

/-- The ROM with word `w` at address `a`; addresses that did not exist below `a` become reserved words. -/
def placeWord : List Microword → Nat → Microword → List Microword
  | [], 0, w => [w]
  | [], a + 1, w => 0xFF :: placeWord [] a w
  | _ :: ws, 0, w => w :: ws
  | v :: ws, a + 1, w => v :: placeWord ws a w

/-- The schedule with `RST` not active in the next step. -/
def releaseRst : List Inputs → List Inputs
  | [] => []
  | i :: is => { i with rst := false } :: is

/-- The address the word is placed at: `UPC`, or 0 where `UPC` is an address the ROM cannot have. -/
def State.placeAddress (s : State) : Upc := if romWords ≤ s.upc.toNat then 0 else s.upc

end Sys2Proof.Machine
end

