-- ==== Sys2Proof/Machine/Digitizer.lean ====
section
/-! DEFINITION. The capacitor-line operations of the Axis Digitizer: CAPREL and CAPDIS (41_digitizer.md). -/

namespace Sys2Proof.Machine

/-- CAPREL (R95): both capacitor lines released. -/
def execCaprel (s : State) : Host.Outcome State Fault Refusal :=
  .next ((s.setCaps .rel).fallThrough s.cfg.opCycles)

/-- CAPDIS (R96): both capacitor lines driven low. -/
def execCapdis (s : State) : Host.Outcome State Fault Refusal :=
  .next ((s.setCaps .low).fallThrough s.cfg.opCycles)

end Sys2Proof.Machine
end

