-- ==== Sys2Proof/Machine/Scanner.lean ====
section
/-! DEFINITION. The Matrix Scanner: ROWREL, ROWDRV, DWELL and COLSMP (42_matrix_scanner.md). -/

namespace Sys2Proof.Machine

/-- ROWREL (R105): row line `r` released. -/
def execRowrel (r : RowIdx) (s : State) : Host.Outcome State Fault Refusal :=
  .next ((s.setRowl r .rel).fallThrough s.cfg.opCycles)

/-- ROWDRV (R106): row line `r` driven low; refused where that would make a second row `LOW`. -/
def execRowdrv (r : RowIdx) (s : State) : Host.Outcome State Fault Refusal :=
  if otherRowLow s.rowl r then .refused .rowContention
  else .next ((s.setRowl r .low).fallThrough s.cfg.opCycles)

/-- DWELL (R107): only time passes. -/
def execDwell (s : State) : Host.Outcome State Fault Refusal :=
  .next (s.fallThrough s.cfg.dwellCycles)

/-- COLSMP (R108): `ROW[r] <- In.COL[3:0]`, stored as read. -/
def execColsmp (r : RowIdx) (s : State) : Host.Outcome State Fault Refusal :=
  .next ((s.setRow r s.draw.col).fallThrough s.cfg.opCycles)

end Sys2Proof.Machine
end

