-- ==== Sys2Proof/Machine/Sequencer.lean ====
section
/-! DEFINITION. The Control-Line Sequencer's own operations: CAVREL, CAVASR, SETTLE, CLASSIFY and REPORT
(43_sequencer.md). -/

namespace Sys2Proof.Machine

/-- CAVREL (R122): the control line released. -/
def execCavrel (s : State) : Host.Outcome State Fault Refusal :=
  .next ((s.setCav .rel).fallThrough s.cfg.opCycles)

/-- CAVASR (R123): the control line driven high. -/
def execCavasr (s : State) : Host.Outcome State Fault Refusal :=
  .next ((s.setCav .high).fallThrough s.cfg.opCycles)

/-- SETTLE (R124): only time passes. -/
def execSettle (s : State) : Host.Outcome State Fault Refusal :=
  .next (s.fallThrough s.cfg.settleCycles)

/-- CLASSIFY (R125): `CLASS` from the sample pair as it stands, and the `Tag` event with it (R127). -/
def execClassify (s : State) : Host.Outcome State Fault Refusal :=
  .next (((s.setCls (classOf s.axis)).emit (.tag (classOf s.axis))).fallThrough s.cfg.classifyCycles)

/-- REPORT (R128): the button levels, the `Report` event, and back to `UPC` 0. -/
def execReport (s : State) : Host.Outcome State Fault Refusal :=
  .next (((s.setButtons s.draw.topN s.draw.botN).emit
    (.report (s.reportOf s.draw.topN s.draw.botN))).restart s.cfg.reportCycles)

end Sys2Proof.Machine
end

