-- ==== Sys2Proof/Machine/Timebase.lean ====
section
/-! DEFINITION. The Time Base: TBRST and TBRUN (40_timebase.md). -/

namespace Sys2Proof.Machine

/-- TBRST (R80): `TICK <- 0`. -/
def execTbrst (s : State) : Host.Outcome State Fault Refusal :=
  .next ((s.setTick 0).fallThrough s.cfg.opCycles)

/-- TBRUN (R81): one tick. It has no meaning with `TICK` at `N_TICKS` or above (R81 f). -/
def execTbrun (s : State) : Host.Outcome State Fault Refusal :=
  if s.tick.toNat < fixedParams.nTicks then .next (s.runTick s.draw.cmpTrip)
  else .refused .tbrunWithoutTbrst

end Sys2Proof.Machine
end

