-- ==== Sys2Proof/Machine/Dispatch.lean ====
section
/-! DEFINITION. One arm per micro-operation. -/

namespace Sys2Proof.Machine

def exec (i : Instr) (s : State) : Host.Outcome State Fault Refusal :=
  match i with
  | .rowrel r => Sys2Proof.Machine.execRowrel r s
  | .rowdrv r => Sys2Proof.Machine.execRowdrv r s
  | .dwell => Sys2Proof.Machine.execDwell s
  | .colsmp r => Sys2Proof.Machine.execColsmp r s
  | .cavrel => Sys2Proof.Machine.execCavrel s
  | .cavasr => Sys2Proof.Machine.execCavasr s
  | .settle => Sys2Proof.Machine.execSettle s
  | .caprel => Sys2Proof.Machine.execCaprel s
  | .tbrst => Sys2Proof.Machine.execTbrst s
  | .tbrun => Sys2Proof.Machine.execTbrun s
  | .capdis => Sys2Proof.Machine.execCapdis s
  | .classify => Sys2Proof.Machine.execClassify s
  | .report => Sys2Proof.Machine.execReport s

end Sys2Proof.Machine
end

