-- ==== Sys2Proof/Machine/Step.lean ====
section
/-! DEFINITION. One step of the core (43_sequencer.md R120), and placing a word where the next step fetches. -/

namespace Sys2Proof.Machine

/-- R120: reset before everything (R145); then fetch, decode and execute. Each step uses up one step's input draws. -/
def step (s : State) : Host.Outcome State Fault Refusal :=
  match s.draw.rst with
  | true => .next s.takeReset
  | false =>
    match s.fetch with
    | .error r => .refused r
    | .ok i => mapNext State.advanceInputs (exec i s)

/-- The state with the microword `w` in the ROM where the next step fetches, and `RST` not active in that step. -/
def State.withFetchWord (s : State) (nbits w : Nat) : State :=
  { s with
    upc := s.placeAddress
    rom := placeWord s.rom s.placeAddress.toNat (BitVec.ofNat 8 (w % 2 ^ nbits))
    inputs := releaseRst s.inputs }

end Sys2Proof.Machine
end

