-- ==== Sys2Proof/Machine/Asm.lean ====
section
/-! DEFINITION. Assembler syntax and macros (30_encoding.md R74, R75). -/

namespace Sys2Proof.Machine

/-- The mnemonics of Table R61. -/
def mnemonic : Instr → String
  | .rowrel _ => "ROWREL"
  | .rowdrv _ => "ROWDRV"
  | .dwell => "DWELL"
  | .colsmp _ => "COLSMP"
  | .cavrel => "CAVREL"
  | .cavasr => "CAVASR"
  | .settle => "SETTLE"
  | .caprel => "CAPREL"
  | .tbrst => "TBRST"
  | .tbrun => "TBRUN"
  | .capdis => "CAPDIS"
  | .classify => "CLASSIFY"
  | .report => "REPORT"

/-- The row operand of an operation, if it has one (R62). -/
def rowOperand : Instr → Option RowIdx
  | .rowrel r => some r
  | .rowdrv r => some r
  | .colsmp r => some r
  | _ => none

/-- One line of a listing: `<address>: <MNEMONIC> [<r>]` (R74). -/
def listingLine (address : Nat) (i : Instr) : String :=
  toString address ++ ": " ++ mnemonic i ++
    match rowOperand i with
    | some r => " " ++ toString r.val
    | none => ""

/-- An operation from its mnemonic and its operand as written (R74); none where they name no operation. -/
def parse (name : String) (operand : Option Nat) : Option Instr :=
  match operand with
  | some n =>
    if h : n < fixedParams.nRows then
      if name = "ROWREL" then some (.rowrel ⟨n, h⟩)
      else if name = "ROWDRV" then some (.rowdrv ⟨n, h⟩)
      else if name = "COLSMP" then some (.colsmp ⟨n, h⟩)
      else none
    else none
  | none =>
    [Instr.dwell, .cavrel, .cavasr, .settle, .caprel, .tbrst, .tbrun, .capdis, .classify, .report].find?
      fun i => mnemonic i = name

/-- SCANROW `r` (R75). -/
def scanRowOps (r : RowIdx) : List Instr := [.rowrel (r - 1), .rowdrv r, .dwell, .colsmp r]

/-- SCAN (R75): SCANROW for each row in turn. -/
def scanOps : List Instr := (List.finRange fixedParams.nRows).flatMap scanRowOps

/-- PASS (R75). -/
def passOps : List Instr := [.tbrst, .tbrun]

/-- DIGITIZE (R75). -/
def digitizeOps : List Instr := [.caprel] ++ passOps ++ [.capdis]

/-- MEASREL (R75). -/
def measRelOps : List Instr := [.cavrel, .settle] ++ digitizeOps

/-- MEASASR (R75). -/
def measAsrOps : List Instr := [.cavasr, .settle] ++ digitizeOps

/-- CYCLE (R75): one outer cycle. -/
def cycleOps : List Instr := scanOps ++ measRelOps ++ [.classify] ++ measAsrOps ++ scanOps ++ [.report]

end Sys2Proof.Machine
end

