-- ==== Sys2Proof/Machine/Environment.lean ====
section
/-! DEFINITION. Optional models of the environment: the key matrix (42_matrix_scanner.md R115) and what a comparator
presents (`CMP_SENSE`, 92_eei_decisions.md D9). No step of the core uses them; a claim that does names them as a
premise. -/

namespace Sys2Proof.Machine

/-- Which keys are held down: element `c` of element `r` is `KEY[r][c]` (R115). -/
abbrev Keys := PerRow (PerCol Bool)

/-- Some row that is driven low has its key in column `c` down. -/
def pulledLow (rowl : PerRow PullLine) (key : Keys) (c : ColIdx) : Bool :=
  decide (∃ r : RowIdx, rowl.get r = .low ∧ (key.get r).get c = true)

/-- R115: `In.COL[c]` is 0 if a driven row's key in column `c` is down, else 1. -/
def matrixCol (rowl : PerRow PullLine) (key : Keys) : Mask :=
  BitVec.ofFnLE fun c => !pulledLow rowl key c

/-- What a comparator presents at a poll, given whether the input had crossed the reference at the poll before and
whether it has at this one (Table R7 `CMP_SENSE`). The core takes whatever is presented (R90). -/
def comparatorOutput (sense : CmpSense) (before now : Bool) : Bool :=
  match sense with
  | .levelBeforeCrossing => !now
  | .levelAfterCrossing => now
  | .edge => now && !before

end Sys2Proof.Machine
end

