-- ==== Sys2Proof/Machine/Ports.lean ====
section
/-! DEFINITION. The output ports (10_state.md R25) as functions of the state a step begins in: the wire pairs of the
line latches (30_encoding.md R69), the phase (10_state.md R12, R68), and the two strobes with their payloads. -/

namespace Sys2Proof.Machine

/-- R69: the 2-bit value `OE`, `OUT` of a capacitor or row latch. -/
def PullLine.code : PullLine → BitVec 2
  | .rel => 0b00
  | .low => 0b10

/-- R69: the 2-bit value `OE`, `OUT` of the control-line latch. -/
def CtlLine.code : CtlLine → BitVec 2
  | .rel => 0b00
  | .high => 0b11

/-- The level the core puts on a pad of a given line code, none where it does not drive the pad (R21). -/
def padLevel (code : BitVec 2) : Option Bool :=
  if code.getLsbD 1 then some (code.getLsbD 0) else none

/-- The six states of the document's sequencer (R12, R130). -/
inductive Phase where
  | scanPre
  | measureReleased
  | classify
  | measureAsserted
  | scanPost
  | report
  deriving DecidableEq, Repr

/-- R68. -/
def Phase.code : Phase → BitVec 3
  | .scanPre => 0
  | .measureReleased => 1
  | .classify => 2
  | .measureAsserted => 3
  | .scanPost => 4
  | .report => 5

/-- R12: the phase of an address, none for an address that is no address of the ROM. -/
def phaseAt (u : Nat) : Option Phase :=
  if u ≤ 15 then some .scanPre
  else if u ≤ 21 then some .measureReleased
  else if u ≤ 22 then some .classify
  else if u ≤ 28 then some .measureAsserted
  else if u ≤ 44 then some .scanPost
  else if u ≤ 45 then some .report
  else none

/-- `PHASE` of a state: a pure function of `UPC` (R12). -/
def State.phase (s : State) : Option Phase := phaseAt s.upc.toNat

/-- The next phase of the fixed cycle (R130). -/
def Phase.succ : Phase → Phase
  | .scanPre => .measureReleased
  | .measureReleased => .classify
  | .classify => .measureAsserted
  | .measureAsserted => .scanPost
  | .scanPost => .report
  | .report => .scanPre

/-- The operation the step beginning in this state executes: none under reset and none where the fetch is refused. -/
def State.current (s : State) : Option Instr :=
  match s.draw.rst with
  | true => none
  | false =>
    match s.fetch with
    | .ok i => some i
    | .error _ => none

/-- `TAG_STB` with `TAG_CLASS` (R25): during CLASSIFY the new class, else no strobe. -/
def State.tagPort (s : State) : Option DeviceClass :=
  match s.current with
  | some .classify => some (classOf s.axis)
  | _ => none

/-- `RPT_STB` with the record (R25, R44): during REPORT the record with the new button levels, else no strobe. -/
def State.reportPort (s : State) : Option Report :=
  match s.current with
  | some .report => some (s.reportOf s.draw.topN s.draw.botN)
  | _ => none

/-- Every output port of R25. -/
structure OutputPorts where
  capxOE : Bool
  capxOut : Bool
  capyOE : Bool
  capyOut : Bool
  rowOE : BitVec fixedParams.nRows
  rowOut : BitVec fixedParams.nRows
  cavOE : Bool
  cavOut : Bool
  /-- `PHASE[2:0]`; none for a `UPC` that no reachable state has. -/
  phase : Option (BitVec 3)
  tagStb : Bool
  /-- `TAG_CLASS`, given a value only while the strobe is 1. -/
  tagClass : Option (BitVec 1)
  rptStb : Bool
  /-- The `RPT_` record, given a value only while the strobe is 1. -/
  rpt : Option Report
  deriving DecidableEq, Repr

/-- The output ports during the step that begins in `s` (R25). -/
def State.ports (s : State) : OutputPorts where
  capxOE := (s.cap.get xAxis).code.getLsbD 1
  capxOut := (s.cap.get xAxis).code.getLsbD 0
  capyOE := (s.cap.get yAxis).code.getLsbD 1
  capyOut := (s.cap.get yAxis).code.getLsbD 0
  rowOE := BitVec.ofFnLE fun r => (s.rowl.get r).code.getLsbD 1
  rowOut := BitVec.ofFnLE fun r => (s.rowl.get r).code.getLsbD 0
  cavOE := s.cav.code.getLsbD 1
  cavOut := s.cav.code.getLsbD 0
  phase := s.phase.map Phase.code
  tagStb := s.tagPort.isSome
  tagClass := s.tagPort.map DeviceClass.code
  rptStb := s.reportPort.isSome
  rpt := s.reportPort

end Sys2Proof.Machine
end

