-- ==== Sys2Proof/Machine/Timing.lean ====
section
/-! DEFINITION. Durations (70_reset_and_hazards.md Table R180, R181), as functions of the open parameters alone. -/

namespace Sys2Proof.Machine

/-- The clock cycles of one step of an operation (Table R180; for TBRUN, of one tick: R82). -/
def stepCycles (c : OpenParams) : Instr → Nat
  | .rowrel _ => c.opCycles
  | .rowdrv _ => c.opCycles
  | .dwell => c.dwellCycles
  | .colsmp _ => c.opCycles
  | .cavrel => c.opCycles
  | .cavasr => c.opCycles
  | .settle => c.settleCycles
  | .caprel => c.opCycles
  | .tbrst => c.opCycles
  | .tbrun => c.tickCycles
  | .capdis => c.opCycles
  | .classify => c.classifyCycles
  | .report => c.reportCycles

/-- How many steps an operation takes (Table R180). -/
def opSteps : Instr → Nat
  | .tbrun => fixedParams.nTicks
  | _ => 1

/-- The clock cycles of a whole sequence of operations. -/
def seqCycles (c : OpenParams) (p : List Instr) : Nat :=
  (p.map fun i => opSteps i * stepCycles c i).sum

/-- The steps of a whole sequence of operations. -/
def seqSteps (p : List Instr) : Nat := (p.map opSteps).sum

/-- R181: the length of one outer cycle. -/
def cycleLength (c : OpenParams) : Nat :=
  32 * c.opCycles + 8 * c.dwellCycles + 2 * c.settleCycles + 2 * fixedParams.nTicks * c.tickCycles +
    c.classifyCycles + c.reportCycles

end Sys2Proof.Machine
end

