-- ==== Sys2Proof/Safety.lean ====
section
/-! DEFINITION. What a safe run is, in the terms the claims use: runs without reset, the states a run from reset can
reach, the location invariant of the fixed microprogram, the clock schedule, and the reading of a pass's polls. -/

namespace Sys2Proof.Machine

/-! ### Runs -/

/-- `RST` is not active in the next `n` steps. -/
def NoReset (n : Nat) (s : State) : Prop := ∀ k, k < n → (s.drawAt k).rst = false

/-- `k` steps of the core, stopping at the first refusal. -/
def run : Nat → State → Host.Outcome State Fault Refusal
  | 0, s => .next s
  | k + 1, s =>
    match Sys2Proof.Machine.step s with
    | .next t => run k t
    | .fault r => .fault r
    | .refused r => .refused r

/-- The operations of a list one after another, each on the state the one before left, stopping at the first refusal:
a microprogram read in address order, one step of each TBRUN. -/
def execAll : List Instr → State → Host.Outcome State Fault Refusal
  | [], s => .next s
  | i :: p, s =>
    match exec i s with
    | .next t => execAll p t
    | .fault r => .fault r
    | .refused r => .refused r

/-- The reset state of an instance with the core's ROM: any open parameters (R7), any input draws to come (R5). -/
def bootState (cfg : OpenParams) (inputs : List Inputs) (stepNo : Nat) : State :=
  { State.reset with cfg := cfg, inputs := inputs, stepNo := stepNo }

/-- The states a run from reset can be in (R165: every run starts from the reset state). -/
inductive Reachable : State → Prop where
  | boot (cfg : OpenParams) (inputs : List Inputs) (stepNo : Nat) : Reachable (bootState cfg inputs stepNo)
  | step {s t : State} (hs : Reachable s) (h : Sys2Proof.Machine.step s = .next t) : Reachable t

/-! ### The output trace -/

/-- How many reports a trace holds: the outer cycles completed since reset. -/
def reports : List Event → Nat
  | [] => 0
  | .tag _ :: es => reports es
  | .report _ :: es => reports es + 1

/-- A trace of whole cycles (R130, R127): `Tag`, `Report`, alternating, each report with the class of the tag before
it. -/
def wholeCycles : List Event → Bool
  | [] => true
  | .tag c :: .report r :: es => r.cls == c && wholeCycles es
  | _ => false

/-! ### The location invariant -/

/-- R111: the row driven in the state before the word at address `u`; `first` says that no cycle is complete yet. -/
def drivenRow (first : Bool) (u : Nat) : Option RowIdx :=
  if u = 0 then (if first then none else some 3)
  else if u = 1 ∨ u = 5 ∨ u = 9 ∨ u = 13 ∨ u = 30 ∨ u = 34 ∨ u = 38 ∨ u = 42 then none
  else if u ≤ 4 then some 0
  else if u ≤ 8 then some 1
  else if u ≤ 12 then some 2
  else if u ≤ 29 then some 3
  else if u ≤ 33 then some 0
  else if u ≤ 37 then some 1
  else if u ≤ 41 then some 2
  else some 3

/-- The row latches with just this row driven. -/
def rowLatches (driven : Option RowIdx) : PerRow PullLine :=
  Vector.ofFn fun r => if driven = some r then .low else .rel

/-- R99: the capacitor latches before the word at address `u`. -/
def capsAt (u : Nat) : PullLine :=
  if (19 ≤ u ∧ u ≤ 21) ∨ (26 ≤ u ∧ u ≤ 28) then .rel else .low

/-- R122, R123, R163: the control-line latch before the word at address `u`. -/
def cavAt (first : Bool) (u : Nat) : CtlLine :=
  if u ≤ 16 then (if first then .rel else .high) else if u ≤ 23 then .rel else .high

/-- No report has been emitted since reset. -/
def State.firstCycle (s : State) : Bool := reports s.out == 0

/-- What holds in every state a run of the fixed microprogram can be in: the ranges of R33, where each line latch
stands (R99, R111, R163), what `TICK` holds (R85), and the trace so far (R27, R130). -/
structure State.Inv (s : State) : Prop where
  rom : s.rom = microprogram
  upc : s.upc.toNat ≤ 45
  tickInPass : s.upc.toNat = 20 ∨ s.upc.toNat = 27 → s.tick.toNat < fixedParams.nTicks
  tickOutside : s.upc.toNat ≠ 20 → s.upc.toNat ≠ 27 →
    s.tick.toNat = if s.firstCycle = true ∧ s.upc.toNat ≤ 19 then 0 else fixedParams.nTicks
  axis : ∀ a : AxisIdx, (s.axis.get a).toNat ≤ fixedParams.tickMax
  cap : ∀ a : AxisIdx, s.cap.get a = capsAt s.upc.toNat
  rowl : s.rowl = rowLatches (drivenRow s.firstCycle s.upc.toNat)
  cav : s.cav = cavAt s.firstCycle s.upc.toNat
  traceBeforeTag : s.upc.toNat ≤ 22 → wholeCycles s.out = true
  traceAfterTag : 22 < s.upc.toNat → ∃ es, s.out = es ++ [.tag s.cls] ∧ wholeCycles es = true

/-- What holds whatever the ROM is (R33, R106): the sample and tick ranges, at most one row driven, the capacitor
lines together, and a `UPC` at most one beyond the last address. -/
structure State.Ranges (s : State) : Prop where
  upc : s.upc.toNat ≤ romWords
  tick : s.tick.toNat ≤ fixedParams.nTicks
  axis : ∀ a : AxisIdx, (s.axis.get a).toNat ≤ fixedParams.tickMax
  oneRow : ∀ r q : RowIdx, s.rowl.get r = .low → s.rowl.get q = .low → r = q
  caps : ∀ a b : AxisIdx, s.cap.get a = s.cap.get b

/-! ### The clock schedule (R181) -/

/-- The clock cycles from the start of a cycle to the start of the word at address `u` (R181). -/
def startCycles (c : OpenParams) (u : Nat) : Nat := seqCycles c (cycleOps.take u)

/-- R181: `CYC` is fixed by the cycles completed, the address and, inside a pass, the tick. -/
def State.OnSchedule (s : State) : Prop :=
  s.cyc = reports s.out * cycleLength s.cfg + startCycles s.cfg s.upc.toNat +
    if s.upc.toNat = 20 ∨ s.upc.toNat = 27 then s.tick.toNat * s.cfg.tickCycles else 0

/-! ### Reading a pass (R93, R94) -/

/-- The last of the first `n` polls that read "tripped", if one did. -/
def lastTrip (trip : Nat → Bool) : Nat → Option Nat
  | 0 => none
  | n + 1 => if trip n then some n else lastTrip trip n

/-- R93, R94: a sample register after a pass whose poll `k` read `trip k`, from the value it held before. -/
def sampleAfterPass (old : Sample) (trip : Nat → Bool) : Sample :=
  match lastTrip trip fixedParams.nTicks with
  | some k => BitVec.ofNat 8 k
  | none => old

/-- The polls of axis `a` in the pass whose first tick is `k` steps from now. -/
def State.polls (s : State) (a : AxisIdx) (k : Nat) : Nat → Bool := fun n => (s.drawAt (k + n)).cmpTrip.get a

/-! ### Comparing states -/

/-- The state with its input draws taken away: two states equal after this hold the same but for what the
environment presents. -/
def State.withoutInputs (s : State) : State := { s with inputs := [], stepNo := 0 }

/-- The words at addresses `a`, `a + 1`, … are the encodings of `p`, all within the ROM's addresses. -/
def holdsAt (rom : List Microword) (a : Nat) (p : List Instr) : Prop :=
  a + p.length ≤ romWords ∧ ∀ k, k < p.length → rom[a + k]? = (p[k]?).map encode

end Sys2Proof.Machine
end

