-- ==== Sys2Proof/Certificates/Slice0/Obligations.lean ====
section
/-! DEFINITION. The statements for the provers. A statement says which rule of spec/ it formalises; where a clause is
the model's own choice it names the log entry. -/

open Sys2Proof Sys2Proof.Machine

/-! ### Encoding -/

/-- 30_encoding.md R61, 95_test_vectors.md 2.1: words written out from the table decode to their operation, and the
reserved examples are refused, each for its field. -/
def Obligations.TableWordsDecode : Prop :=
  decode 0b00000000 = .instr (.rowrel 0) ∧ decode 0b00000011 = .instr (.rowrel 3) ∧
  decode 0b00010000 = .instr (.rowdrv 0) ∧ decode 0b00010011 = .instr (.rowdrv 3) ∧
  decode 0b00100000 = .instr .dwell ∧
  decode 0b00110000 = .instr (.colsmp 0) ∧ decode 0b00110011 = .instr (.colsmp 3) ∧
  decode 0b01000000 = .instr .cavrel ∧ decode 0b01010000 = .instr .cavasr ∧
  decode 0b01100000 = .instr .settle ∧ decode 0b01110000 = .instr .caprel ∧
  decode 0b10000000 = .instr .tbrst ∧ decode 0b10010000 = .instr .tbrun ∧
  decode 0b10100000 = .instr .capdis ∧ decode 0b10110000 = .instr .classify ∧
  decode 0b11000000 = .instr .report ∧
  decode 0x04 = .reserved .zField ∧ decode 0x1C = .reserved .zField ∧
  decode 0x21 = .reserved .rField ∧ decode 0x71 = .reserved .rField ∧ decode 0xC3 = .reserved .rField ∧
  decode 0xD0 = .reserved .opcode ∧ decode 0xE0 = .reserved .opcode ∧ decode 0xF0 = .reserved .opcode

/-- 30_encoding.md R65: which words are valid, said of the word's number; 22 of the 256 are, 234 are reserved. -/
def Obligations.ValidWordsExactly : Prop :=
  (∀ w : Microword, (∃ i, decode w = .instr i) ↔
    w.toNat / 16 ≤ 12 ∧ w.toNat / 4 % 4 = 0 ∧
      (w.toNat / 16 = 0 ∨ w.toNat / 16 = 1 ∨ w.toNat / 16 = 3 ∨ w.toNat % 4 = 0)) ∧
  ((List.range 256).filter fun n => (decodeTableWord 8 n).isSome).length = 22 ∧
  ((List.range 256).filter fun n => (decodeTableWord 8 n).isNone).length = 234

/-- 30_encoding.md R61, R62, R74: decoding and encoding are inverse to each other, both ways. -/
def Obligations.DecodeEncodeInverse : Prop :=
  (∀ i : Instr, i.wellFormed = true → decode (encode i) = .instr i) ∧
  (∀ (w : Microword) (i : Instr), decode w = .instr i → encode i = w)

/-- 30_encoding.md R74, R77, R120: with the encodings of a program as the ROM, the fetch at every address of the
program answers the program's operation at that address, and the fetch beyond it is refused. -/
def Obligations.AssembledProgramIsFetched : Prop :=
  ∀ (p : List Instr) (s : State), p.length ≤ romWords → s.rom = p.map encode →
    (∀ h : s.upc.toNat < p.length, s.fetch = .ok p[s.upc.toNat]) ∧
    (p.length ≤ s.upc.toNat → s.fetch = .error .upcOutOfRom)

/-- 30_encoding.md Table R66, R75: the ROM's 46 words, and that they are the macro CYCLE assembled. -/
def Obligations.RomIsTable : Prop :=
  State.reset.rom =
    [0x03, 0x10, 0x20, 0x30, 0x00, 0x11, 0x20, 0x31, 0x01, 0x12, 0x20, 0x32, 0x02, 0x13, 0x20, 0x33,
     0x40, 0x60, 0x70, 0x80, 0x90, 0xA0, 0xB0, 0x50, 0x60, 0x70, 0x80, 0x90, 0xA0,
     0x03, 0x10, 0x20, 0x30, 0x00, 0x11, 0x20, 0x31, 0x01, 0x12, 0x20, 0x32, 0x02, 0x13, 0x20, 0x33, 0xC0] ∧
  State.reset.rom.length = 46 ∧ State.reset.rom = cycleOps.map encode

/-! ### Parameters and reset -/

/-- 00_scope.md Tables R6 and R7: the value of each of the ten fixed parameters (`V_REF` on its rail, in millivolts;
`SETTLE_TIME` in nanoseconds), and the default of each open one that belongs to the core. -/
def Obligations.ParameterValues : Prop :=
  fixedParams.nTicks = 228 ∧ fixedParams.tickMax = 227 ∧ fixedParams.tickMax = fixedParams.nTicks - 1 ∧
  fixedParams.nAxes = 2 ∧ fixedParams.sampleBits = 8 ∧ fixedParams.nRows = 4 ∧ fixedParams.nCols = 4 ∧
  fixedParams.classThreshold = 220 ∧ fixedParams.dwellTicks = 2 ∧ fixedParams.settleTimeNs = 16 * 1000000 ∧
  fixedParams.vRefMillivolt = 2290 ∧ fixedParams.vRefRailMillivolt = 5000 ∧
  State.reset.cfg =
    { tickCycles := 64, dwellCycles := 128, cycleTimeNs := 1000, settleCycles := 16000,
      opCycles := 1, classifyCycles := 1, reportCycles := 1 } ∧
  State.reset.cfg.dwellCycles = fixedParams.dwellTicks * State.reset.cfg.tickCycles ∧
  (State.reset.cfg.settleCycles : Rat) * State.reset.cfg.cycleTimeNs = fixedParams.settleTimeNs

/-- 10_state.md Table R32: the reset state. The values are the spec's decisions D10 to D12. -/
def Obligations.ResetStateIsTable : Prop :=
  State.reset.upc = 0 ∧ State.reset.tick = 0 ∧ (∀ a, State.reset.axis.get a = 0) ∧
  (∀ r, State.reset.row.get r = 0xF) ∧ State.reset.cls = .trackBall ∧
  State.reset.topl = true ∧ State.reset.botl = true ∧
  (∀ a, State.reset.cap.get a = .low) ∧ (∀ r, State.reset.rowl.get r = .rel) ∧
  State.reset.cav = .rel ∧ State.reset.cyc = 0 ∧ State.reset.out = []

/-- 70_reset_and_hazards.md R160, 60_exceptions.md R145 (the spec's decision D13): in a step with `RST` active no
operation executes, whatever `UPC` and the ROM are, and every element takes its reset value. That the ROM and the
parameters stay and the environment's draws go on is the model's reading (log 3, log 4). -/
def Obligations.ResetOverridesEverything : Prop :=
  ∀ s : State, s.draw.rst = true →
    step s = .next
      { upc := 0, tick := 0, axis := #v[0, 0], row := #v[0xF, 0xF, 0xF, 0xF], cls := .trackBall,
        topl := true, botl := true, cap := #v[.low, .low], rowl := #v[.rel, .rel, .rel, .rel], cav := .rel,
        cyc := 0, out := [], rom := s.rom, cfg := s.cfg, inputs := s.inputs.tail, stepNo := s.stepNo + 1 }

/-! ### The step -/

/-- 43_sequencer.md R120: with `RST` not active, when the word at `UPC` decodes to an instruction, the step is that
instruction at that state, and one step's draws are used up. The draws are the schedule's first entry, or free values
where nothing is scheduled (log 3). -/
def Obligations.StepRunsTheDecodedInstruction : Prop :=
  (∀ (s : State) (w : Microword) (i : Instr), s.draw.rst = false → s.upc.toNat ≤ 45 →
    s.rom[s.upc.toNat]? = some w → decode w = .instr i →
      (∀ t, exec i s = .next t → step s = .next { t with inputs := t.inputs.tail, stepNo := t.stepNo + 1 }) ∧
      (∀ r, exec i s = .refused r → step s = .refused r)) ∧
  (∀ (s : State) (d : Inputs) (ds : List Inputs), s.inputs = d :: ds → s.draw = d) ∧
  (∀ s : State, s.inputs = [] → s.draw =
    { rst := false, cmpTrip := #v[Config.freeCmpTrip s.stepNo xAxis, Config.freeCmpTrip s.stepNo yAxis],
      col := Config.freeCol s.stepNo, topN := Config.freeTopN s.stepNo, botN := Config.freeBotN s.stepNo })

/-- 30_encoding.md R65, R67, R77, 60_exceptions.md R141: the refusals of the fetch. -/
def Obligations.FetchRefusesByName : Prop :=
  ∀ s : State, s.draw.rst = false →
    (46 ≤ s.upc.toNat → step s = .refused .upcOutOfRom) ∧
    (s.rom[s.upc.toNat]? = none → step s = .refused .upcOutOfRom) ∧
    (∀ w why, s.upc.toNat ≤ 45 → s.rom[s.upc.toNat]? = some w → decode w = .reserved why →
      step s = .refused .reservedMicroword)

/-- 30_encoding.md R77, log 5: the state in which a word was placed runs that word's instruction next, and placing
changes nothing but the ROM word at the address fetched from, the reset input of the next step, and a `UPC` the ROM
cannot have. Every other word the ROM had is as it was; addresses missing below the placed one are filled with the
reserved word 0xFF (log 5), and there is none above. -/
def Obligations.PlacedWordRunsNext : Prop :=
  ∀ (s : State) (w : Nat) (i : Instr), w < 256 → decode (BitVec.ofNat 8 w) = .instr i →
    (s.withFetchWord 8 w).draw.rst = false ∧ (s.withFetchWord 8 w).fetch = .ok i ∧
    (∀ t, exec i (s.withFetchWord 8 w) = .next t → step (s.withFetchWord 8 w) = .next t.advanceInputs) ∧
    { s.withFetchWord 8 w with upc := s.upc, rom := s.rom, inputs := s.inputs } = s ∧
    (s.withFetchWord 8 w).upc = s.placeAddress ∧
    (s.withFetchWord 8 w).rom[s.placeAddress.toNat]? = some (BitVec.ofNat 8 w) ∧
    (∀ b, b < s.rom.length → b ≠ s.placeAddress.toNat → (s.withFetchWord 8 w).rom[b]? = s.rom[b]?) ∧
    (∀ b, s.rom.length ≤ b → b < s.placeAddress.toNat → (s.withFetchWord 8 w).rom[b]? = some 0xFF) ∧
    (s.withFetchWord 8 w).rom.length = max s.rom.length (s.placeAddress.toNat + 1) ∧
    (s.upc.toNat ≤ 45 → s.placeAddress = s.upc) ∧ (46 ≤ s.upc.toNat → s.placeAddress = 0) ∧
    (s.inputs = [] → (s.withFetchWord 8 w).inputs = []) ∧
    (∀ d ds, s.inputs = d :: ds → (s.withFetchWord 8 w).inputs = { d with rst := false } :: ds)

/-- 60_exceptions.md R140, R141, 43_sequencer.md R135: every operation completes on every state and input, but for the
two situations the spec gives no meaning, each refused by its name. -/
def Obligations.OperationsCompleteOrRefuseByName : Prop :=
  ∀ (i : Instr) (s : State),
    (∃ t, exec i s = .next t) ∨
    (i = .tbrun ∧ fixedParams.nTicks ≤ s.tick.toNat ∧ exec i s = .refused .tbrunWithoutTbrst) ∨
    (∃ r q : RowIdx, i = .rowdrv r ∧ q ≠ r ∧ s.rowl.get q = .low ∧ exec i s = .refused .rowContention)

/-! ### Time Base -/

/-- 40_timebase.md R80: TBRST, on every state. -/
def Obligations.TbrstClearsTick : Prop :=
  decode 0x80 = .instr .tbrst ∧
  ∀ s : State, exec .tbrst s = .next { s with tick := 0, upc := s.upc + 1, cyc := s.cyc + s.cfg.opCycles }

/-- 40_timebase.md R81: one step of TBRUN, on every state with `TICK` below `N_TICKS`; refused on every other. -/
def Obligations.TbrunMakesOneTick : Prop :=
  decode 0x90 = .instr .tbrun ∧
  (∀ s : State, s.tick.toNat < fixedParams.nTicks →
    exec .tbrun s = .next { s with
      axis := #v[if s.draw.cmpTrip.get xAxis = true then s.tick else s.axis.get xAxis,
        if s.draw.cmpTrip.get yAxis = true then s.tick else s.axis.get yAxis]
      tick := s.tick + 1
      upc := if s.tick.toNat + 1 = fixedParams.nTicks then s.upc + 1 else s.upc
      cyc := s.cyc + s.cfg.tickCycles } ∧ (s.tick + 1).toNat = s.tick.toNat + 1) ∧
  (∀ s : State, fixedParams.nTicks ≤ s.tick.toNat → exec .tbrun s = .refused .tbrunWithoutTbrst)

/-- 40_timebase.md R82: the `CYC` increment of a TBRUN step is the constant `TICK_CYCLES`, whatever the comparator
outputs are: with any other input draws the step takes the same time. -/
def Obligations.TickCostIsConstant : Prop :=
  ∀ s : State, s.tick.toNat < fixedParams.nTicks →
    ∀ (ds : List Inputs) (n : Nat), ∃ t, exec .tbrun { s with inputs := ds, stepNo := n } = .next t ∧
      t.cyc = s.cyc + s.cfg.tickCycles

/-- 41_digitizer.md R92: the capture latch. In a TBRUN step each channel's register takes the tick number before the
increment if its poll read 1 and is left as it is if not, each channel by itself; no other operation writes either. -/
def Obligations.CaptureLatch : Prop :=
  (∀ s : State, s.tick.toNat < fixedParams.nTicks → ∃ t, exec .tbrun s = .next t ∧
    ∀ a : AxisIdx, (s.draw.cmpTrip.get a = true → t.axis.get a = s.tick) ∧
      (s.draw.cmpTrip.get a = false → t.axis.get a = s.axis.get a)) ∧
  (∀ (i : Instr) (s t : State), i ≠ .tbrun → exec i s = .next t → t.axis = s.axis)

/-- 40_timebase.md R83, 41_digitizer.md R93, R94: one pass. From any state at a TBRUN with `TICK` 0, whatever the ROM
holds elsewhere: after 228 steps the last trip has won on each axis, an axis without a trip holds what it held, `TICK`
is 228, `UPC` is on the next word, the duration is the constant of R86, and nothing else has changed. -/
def Obligations.PassCapturesLastTrip : Prop :=
  ∀ s : State, s.upc.toNat ≤ 45 → s.rom[s.upc.toNat]? = some 0x90 → s.tick = 0 → NoReset 228 s →
    ∃ t, run 228 s = .next t ∧
      (∀ (a : AxisIdx) (k : Nat), k < 228 → (s.drawAt k).cmpTrip.get a = true →
        (∀ j, k < j → j < 228 → (s.drawAt j).cmpTrip.get a = false) → (t.axis.get a).toNat = k) ∧
      (∀ a : AxisIdx, (∀ k, k < 228 → (s.drawAt k).cmpTrip.get a = false) → t.axis.get a = s.axis.get a) ∧
      t = { s with
        axis := t.axis, tick := 228, upc := s.upc + 1
        cyc := s.cyc + 228 * s.cfg.tickCycles
        inputs := s.inputs.drop 228, stepNo := s.stepNo + 228 }

/-- 40_timebase.md R81 (a), R83: inside a pass the poll of step `k` sees `TICK` = `k`, and `UPC` stays on TBRUN. -/
def Obligations.PassPollsEveryTickOnce : Prop :=
  ∀ s : State, s.upc.toNat ≤ 45 → s.rom[s.upc.toNat]? = some 0x90 → s.tick = 0 → NoReset 228 s →
    ∀ k, k < 228 → ∃ t, run k s = .next t ∧ t.tick.toNat = k ∧ t.upc = s.upc ∧ t.draw = s.drawAt k ∧
      t.cyc = s.cyc + k * s.cfg.tickCycles

/-! ### Digitizer -/

/-- 41_digitizer.md R95: CAPREL, on every state. -/
def Obligations.CaprelReleasesBothLines : Prop :=
  decode 0x70 = .instr .caprel ∧
  ∀ s : State, exec .caprel s =
    .next { s with cap := #v[.rel, .rel], upc := s.upc + 1, cyc := s.cyc + s.cfg.opCycles }

/-- 41_digitizer.md R96: CAPDIS, on every state, whatever the comparator outputs and the samples are; both lines
together, and they stay driven low through every operation but CAPREL; twice is the same as once. -/
def Obligations.CapdisDischargesBothLines : Prop :=
  decode 0xA0 = .instr .capdis ∧
  (∀ s : State, exec .capdis s =
    .next { s with cap := #v[.low, .low], upc := s.upc + 1, cyc := s.cyc + s.cfg.opCycles }) ∧
  (∀ (i : Instr) (s t : State), i ≠ .caprel → exec i s = .next t → (∀ a, s.cap.get a = .low) →
    ∀ a, t.cap.get a = .low) ∧
  (∀ s t u : State, exec .capdis s = .next t → exec .capdis t = .next u → u.cap = t.cap)

/-- 41_digitizer.md R97: one Axis Digitizer run, 231 steps, from any state whose ROM holds DIGITIZE at `UPC`. -/
def Obligations.DigitizerRunEffect : Prop :=
  ∀ s : State, holdsAt s.rom s.upc.toNat digitizeOps → NoReset 231 s →
    run 231 s = .next { s with
      axis := #v[sampleAfterPass (s.axis.get xAxis) (s.polls xAxis 2),
        sampleAfterPass (s.axis.get yAxis) (s.polls yAxis 2)]
      tick := 228, cap := #v[.low, .low], upc := s.upc + 4
      cyc := s.cyc + 3 * s.cfg.opCycles + 228 * s.cfg.tickCycles
      inputs := s.inputs.drop 231, stepNo := s.stepNo + 231 }

/-! ### Matrix Scanner -/

/-- 42_matrix_scanner.md R105: ROWREL `r`, on every state; a row already released stays as it is. -/
def Obligations.RowrelReleasesItsRow : Prop :=
  ∀ (r : RowIdx) (s : State), decode (BitVec.ofNat 8 r.val) = .instr (.rowrel r) ∧
    ∃ t, exec (.rowrel r) s = .next t ∧ t.rowl.get r = .rel ∧
      (∀ q, q ≠ r → t.rowl.get q = s.rowl.get q) ∧ (s.rowl.get r = .rel → t.rowl = s.rowl) ∧
      t = { s with rowl := t.rowl, upc := s.upc + 1, cyc := s.cyc + s.cfg.opCycles }

/-- 42_matrix_scanner.md R106: ROWDRV `r`, on every state with no other row driven; refused on every other. -/
def Obligations.RowdrvDrivesItsRow : Prop :=
  (∀ (r : RowIdx) (s : State), (∀ q, q ≠ r → s.rowl.get q = .rel) →
    decode (BitVec.ofNat 8 (0x10 + r.val)) = .instr (.rowdrv r) ∧
    ∃ t, exec (.rowdrv r) s = .next t ∧ t.rowl.get r = .low ∧
      (∀ q, q ≠ r → t.rowl.get q = s.rowl.get q) ∧
      t = { s with rowl := t.rowl, upc := s.upc + 1, cyc := s.cyc + s.cfg.opCycles }) ∧
  (∀ (r q : RowIdx) (s : State), q ≠ r → s.rowl.get q = .low → exec (.rowdrv r) s = .refused .rowContention)

/-- 42_matrix_scanner.md R107: DWELL, on every state: only `UPC` and `CYC` move. -/
def Obligations.DwellOnlyPassesTime : Prop :=
  decode 0x20 = .instr .dwell ∧
  ∀ s : State, exec .dwell s = .next { s with upc := s.upc + 1, cyc := s.cyc + s.cfg.dwellCycles }

/-- 42_matrix_scanner.md R108: COLSMP `r`, on every state: the columns as read, the other elements unchanged. -/
def Obligations.ColsmpStoresColumnsAsRead : Prop :=
  ∀ (r : RowIdx) (s : State), decode (BitVec.ofNat 8 (0x30 + r.val)) = .instr (.colsmp r) ∧
    ∃ t, exec (.colsmp r) s = .next t ∧ t.row.get r = s.draw.col ∧
      (∀ q, q ≠ r → t.row.get q = s.row.get q) ∧
      t = { s with row := t.row, upc := s.upc + 1, cyc := s.cyc + s.cfg.opCycles }

/-- 20_memory.md R41: the RowSnapshot array. A write replaces element `r` and leaves the other three; a read gives
what was last written, or the reset value; COLSMP alone writes it; REPORT alone reads it, all four in one step: with
any other contents the other operations do the same to everything else. -/
def Obligations.RowArrayAccess : Prop :=
  (∀ (a : PerRow Mask) (r q : RowIdx) (v : Mask), (setAt a r v).get q = if q = r then v else a.get q) ∧
  (∀ r, State.reset.row.get r = 0xF) ∧
  (∀ (i : Instr) (s t : State), (∀ r, i ≠ .colsmp r) → exec i s = .next t → t.row = s.row) ∧
  (∀ (i : Instr) (s : State) (a : PerRow Mask), i ≠ .report →
    mapNext (fun t => { t with row := a }) (exec i { s with row := a }) =
      mapNext (fun t => { t with row := a }) (exec i s)) ∧
  (∀ s : State, ∃ t r, exec .report s = .next t ∧ t.out = s.out ++ [.report r] ∧
    r.row0 = s.row.get 0 ∧ r.row1 = s.row.get 1 ∧ r.row2 = s.row.get 2 ∧ r.row3 = s.row.get 3)

/-- 42_matrix_scanner.md R109, R110: one scan, 16 steps, from any state whose ROM holds SCAN at `UPC` and in which no
row but row 3 is driven. -/
def Obligations.ScanEffect : Prop :=
  ∀ s : State, holdsAt s.rom s.upc.toNat scanOps → (∀ r, r ≠ 3 → s.rowl.get r = .rel) → NoReset 16 s →
    run 16 s = .next { s with
      row := #v[(s.drawAt 3).col, (s.drawAt 7).col, (s.drawAt 11).col, (s.drawAt 15).col]
      rowl := #v[.rel, .rel, .rel, .low]
      upc := s.upc + 16, cyc := s.cyc + 12 * s.cfg.opCycles + 4 * s.cfg.dwellCycles
      inputs := s.inputs.drop 16, stepNo := s.stepNo + 16 }

/-- 42_matrix_scanner.md R115 (a premise about the environment, the spec's decision D26), R71, R113: if at every
COLSMP step of a scan the columns are what the key matrix gives, then after the scan a bit is 0 exactly where a key is
down. -/
def Obligations.ScanShowsTheKeys : Prop :=
  ∀ (s : State) (key : Keys), holdsAt s.rom s.upc.toNat scanOps → (∀ r, r ≠ 3 → s.rowl.get r = .rel) →
    NoReset 16 s →
    (∀ k u r, k < 16 → run k s = .next u → u.fetch = .ok (.colsmp r) → u.draw.col = matrixCol u.rowl key) →
    ∃ t, run 16 s = .next t ∧
      ∀ (r : RowIdx) (c : ColIdx), (t.row.get r).getLsbD c.val = !((key.get r).get c)

/-! ### Sequencer -/

/-- 43_sequencer.md R122: CAVREL, on every state. -/
def Obligations.CavrelReleasesTheControlLine : Prop :=
  decode 0x40 = .instr .cavrel ∧
  ∀ s : State, exec .cavrel s =
    .next { s with cav := .rel, upc := s.upc + 1, cyc := s.cyc + s.cfg.opCycles }

/-- 43_sequencer.md R123: CAVASR, on every state; the line then stays high through every operation but CAVREL. -/
def Obligations.CavasrAssertsTheControlLine : Prop :=
  decode 0x50 = .instr .cavasr ∧
  (∀ s : State, exec .cavasr s =
    .next { s with cav := .high, upc := s.upc + 1, cyc := s.cyc + s.cfg.opCycles }) ∧
  (∀ (i : Instr) (s t : State), i ≠ .cavrel → exec i s = .next t → s.cav = .high → t.cav = .high)

/-- 43_sequencer.md R124: SETTLE, on every state: only `UPC` and `CYC` move. -/
def Obligations.SettleOnlyPassesTime : Prop :=
  decode 0x60 = .instr .settle ∧
  ∀ s : State, exec .settle s = .next { s with upc := s.upc + 1, cyc := s.cyc + s.cfg.settleCycles }

/-- 43_sequencer.md R125, R127: CLASSIFY, on every state: the class from the sample pair as it stands, the tag with
the class just computed, and nothing else; the document's three examples. -/
def Obligations.ClassifyWritesClassAndTag : Prop :=
  decode 0xB0 = .instr .classify ∧
  (∀ s : State, ∃ c : DeviceClass,
    (c = .joystick ↔ (s.axis.get xAxis).toNat > fixedParams.classThreshold ∧
      (s.axis.get yAxis).toNat > fixedParams.classThreshold) ∧
    exec .classify s = .next { s with
      cls := c, out := s.out ++ [.tag c], upc := s.upc + 1, cyc := s.cyc + s.cfg.classifyCycles }) ∧
  classOf #v[221, 225] = .joystick ∧ classOf #v[150, 90] = .trackBall ∧ classOf #v[220, 221] = .trackBall

/-- 43_sequencer.md R126: the comparison of CLASSIFY. Unsigned and strict on both axes; for samples in range, Joystick
means both in 221 to 227, which is 49 pairs; both axes are needed; the axes are interchangeable. -/
def Obligations.ClassificationComparison : Prop :=
  (∀ s : State, ∃ t, exec .classify s = .next t ∧
    (t.cls = .joystick ↔ 220 < (s.axis.get xAxis).toNat ∧ 220 < (s.axis.get yAxis).toNat)) ∧
  (∀ s : State, (∀ a, (s.axis.get a).toNat ≤ 227) → ∃ t, exec .classify s = .next t ∧
    (t.cls = .joystick ↔ ∀ a : AxisIdx, 221 ≤ (s.axis.get a).toNat ∧ (s.axis.get a).toNat ≤ 227)) ∧
  ((Finset.range 228 ×ˢ Finset.range 228).filter fun p =>
    classOf #v[BitVec.ofNat 8 p.1, BitVec.ofNat 8 p.2] = .joystick).card = 49 ∧
  classOf #v[221, 221] = .joystick ∧ classOf #v[227, 220] = .trackBall ∧ classOf #v[0, 227] = .trackBall ∧
  (∀ x y : Sample, classOf #v[x, y] = classOf #v[y, x])

/-- 43_sequencer.md R128, R129: REPORT, on every state: the button levels, the event with the values as they stand,
`UPC` to 0, and nothing cleared or changed. -/
def Obligations.ReportHandsOverAndRestarts : Prop :=
  decode 0xC0 = .instr .report ∧
  (∀ s : State, exec .report s = .next { s with
    topl := s.draw.topN, botl := s.draw.botN
    out := s.out ++ [.report
      { cls := s.cls, x := s.axis.get xAxis, y := s.axis.get yAxis
        row0 := s.row.get 0, row1 := s.row.get 1, row2 := s.row.get 2, row3 := s.row.get 3
        topl := s.draw.topN, botl := s.draw.botN }]
    upc := 0, cyc := s.cyc + s.cfg.reportCycles }) ∧
  (∀ (i : Instr) (s t : State), exec i s = .next t → t.upc ≠ s.upc → t.upc ≠ s.upc + 1 → i = .report)

/-- 60_exceptions.md R144: the simultaneous things. Both comparators tripped in one tick: both captures, the same
value. Several columns low: all stored. Both buttons pressed: both levels stored. -/
def Obligations.SimultaneousInputsAllCount : Prop :=
  (∀ s : State, s.tick.toNat < fixedParams.nTicks → (∀ a, s.draw.cmpTrip.get a = true) →
    ∃ t, exec .tbrun s = .next t ∧ t.axis.get xAxis = s.tick ∧ t.axis.get yAxis = s.tick) ∧
  (∀ (r : RowIdx) (s : State), ∃ t, exec (.colsmp r) s = .next t ∧
    ∀ c : ColIdx, (t.row.get r).getLsbD c.val = s.draw.col.getLsbD c.val) ∧
  (∀ s : State, s.draw.topN = false → s.draw.botN = false →
    ∃ t, exec .report s = .next t ∧ t.topl = false ∧ t.botl = false)

/-! ### All operations together -/

/-- 10_state.md R11, 43_sequencer.md R121: the three control transfers and no others; a transfer depends on `UPC` and
`TICK` alone. -/
def Obligations.ThreeControlTransfers : Prop :=
  (∀ (i : Instr) (s t : State), exec i s = .next t →
    (i ≠ .tbrun → i ≠ .report → t.upc = s.upc + 1) ∧
    (i = .tbrun → t.upc = if s.tick.toNat = fixedParams.tickMax then s.upc + 1 else s.upc) ∧
    (i = .report → t.upc = 0)) ∧
  (∀ (i : Instr) (s s' t t' : State), s.upc = s'.upc → s.tick = s'.tick →
    exec i s = .next t → exec i s' = .next t' → t.upc = t'.upc)

/-- 10_state.md Table R22, the writes: an element changes only under an operation the table names for it, and the ROM,
the parameters and the environment's draws under none. -/
def Obligations.WritesAreTheTables : Prop :=
  ∀ (i : Instr) (s t : State), exec i s = .next t →
    (∀ r, t.rowl.get r ≠ s.rowl.get r → i = .rowrel r ∨ i = .rowdrv r) ∧
    (∀ r, t.row.get r ≠ s.row.get r → i = .colsmp r) ∧
    (t.cav ≠ s.cav → i = .cavrel ∨ i = .cavasr) ∧
    (∀ a, t.cap.get a ≠ s.cap.get a → i = .caprel ∨ i = .capdis) ∧
    (t.tick ≠ s.tick → i = .tbrst ∨ i = .tbrun) ∧
    (∀ a, t.axis.get a ≠ s.axis.get a → i = .tbrun ∧ s.draw.cmpTrip.get a = true) ∧
    (t.cls ≠ s.cls → i = .classify) ∧
    (t.topl ≠ s.topl ∨ t.botl ≠ s.botl → i = .report) ∧
    (t.out ≠ s.out → i = .classify ∨ i = .report) ∧
    t.rom = s.rom ∧ t.cfg = s.cfg ∧ t.inputs = s.inputs ∧ t.stepNo = s.stepNo

/-- 10_state.md Table R22, R24, the reads of the input ports: a port that an operation does not read has no influence
on it, whatever its value. -/
def Obligations.PortsReadOnlyWhereNamed : Prop :=
  ∀ (i : Instr) (s s' : State), s.withoutInputs = s'.withoutInputs →
    (∀ r, i = .colsmp r → s.draw.col = s'.draw.col) →
    (i = .tbrun → s.draw.cmpTrip = s'.draw.cmpTrip) →
    (i = .report → s.draw.topN = s'.draw.topN ∧ s.draw.botN = s'.draw.botN) →
    mapNext State.withoutInputs (exec i s) = mapNext State.withoutInputs (exec i s')

/-- 70_reset_and_hazards.md Table R180: the duration of every step, and the totals of every macro, of a cycle (R181)
and of a cycle with the defaults. -/
def Obligations.DurationsAreTheTables : Prop :=
  (∀ (i : Instr) (s t : State), exec i s = .next t → t.cyc = s.cyc + stepCycles s.cfg i) ∧
  (∀ (c : OpenParams) (r : RowIdx),
    stepCycles c (.rowrel r) = c.opCycles ∧ stepCycles c (.rowdrv r) = c.opCycles ∧
    stepCycles c (.colsmp r) = c.opCycles ∧ stepCycles c .cavrel = c.opCycles ∧ stepCycles c .cavasr = c.opCycles ∧
    stepCycles c .caprel = c.opCycles ∧ stepCycles c .capdis = c.opCycles ∧ stepCycles c .tbrst = c.opCycles ∧
    stepCycles c .dwell = c.dwellCycles ∧ stepCycles c .settle = c.settleCycles ∧
    stepCycles c .tbrun = c.tickCycles ∧ stepCycles c .classify = c.classifyCycles ∧
    stepCycles c .report = c.reportCycles ∧
    seqCycles c (scanRowOps r) = 3 * c.opCycles + c.dwellCycles ∧
    seqCycles c scanOps = 12 * c.opCycles + 4 * c.dwellCycles ∧
    seqCycles c passOps = c.opCycles + 228 * c.tickCycles ∧
    seqCycles c digitizeOps = 3 * c.opCycles + 228 * c.tickCycles ∧
    seqCycles c measRelOps = 4 * c.opCycles + c.settleCycles + 228 * c.tickCycles ∧
    seqCycles c measAsrOps = 4 * c.opCycles + c.settleCycles + 228 * c.tickCycles ∧
    seqCycles c cycleOps = cycleLength c) ∧
  seqSteps cycleOps = 500 ∧ cycleLength State.reset.cfg = 62242

/-- 70_reset_and_hazards.md R175: how long the capacitor lines are low before each release. From every state that
meets the location invariant at `UPC` 22 (the first CAPDIS has just been made), with no reset, 3 steps reach the CAPREL
at `UPC` 25; from one at `UPC` 29 (after the second CAPDIS), 35 steps reach the CAPREL at `UPC` 18 of the next cycle.
Both lines are low in every state on the way, and `CYC` grows by the sum the rule gives. -/
def Obligations.DischargeTimeBeforeEachPass : Prop :=
  (∀ s : State, s.Inv → s.upc = 22 → NoReset 3 s →
    (∃ t, run 3 s = .next t ∧ t.upc = 25 ∧ t.fetch = .ok .caprel ∧
      t.cyc = s.cyc + (s.cfg.classifyCycles + s.cfg.opCycles + s.cfg.settleCycles)) ∧
    (∀ k, k ≤ 3 → ∃ u, run k s = .next u ∧ u.cap.get xAxis = .low ∧ u.cap.get yAxis = .low)) ∧
  (∀ s : State, s.Inv → s.upc = 29 → NoReset 35 s →
    (∃ t, run 35 s = .next t ∧ t.upc = 18 ∧ t.fetch = .ok .caprel ∧
      t.cyc = s.cyc + (2 * (12 * s.cfg.opCycles + 4 * s.cfg.dwellCycles) +
        s.cfg.reportCycles + s.cfg.opCycles + s.cfg.settleCycles)) ∧
    (∀ k, k ≤ 35 → ∃ u, run k s = .next u ∧ u.cap.get xAxis = .low ∧ u.cap.get yAxis = .low))

/-- 20_memory.md R48: writing a latch with the value it already holds changes nothing but `UPC` and `CYC`: every
operation that writes a latch, ROWDRV where no other row is driven (with another row driven it is refused). -/
def Obligations.RepeatedLatchWriteIsIdle : Prop :=
  ∀ s : State,
    ((∀ a, s.cap.get a = .low) →
      exec .capdis s = .next { s with upc := s.upc + 1, cyc := s.cyc + s.cfg.opCycles }) ∧
    ((∀ a, s.cap.get a = .rel) →
      exec .caprel s = .next { s with upc := s.upc + 1, cyc := s.cyc + s.cfg.opCycles }) ∧
    (s.cav = .rel → exec .cavrel s = .next { s with upc := s.upc + 1, cyc := s.cyc + s.cfg.opCycles }) ∧
    (s.cav = .high → exec .cavasr s = .next { s with upc := s.upc + 1, cyc := s.cyc + s.cfg.opCycles }) ∧
    (∀ r, s.rowl.get r = .rel →
      exec (.rowrel r) s = .next { s with upc := s.upc + 1, cyc := s.cyc + s.cfg.opCycles }) ∧
    (∀ r, s.rowl.get r = .low → (∀ q, q ≠ r → s.rowl.get q = .rel) →
      exec (.rowdrv r) s = .next { s with upc := s.upc + 1, cyc := s.cyc + s.cfg.opCycles })

/-! ### Ports -/

/-- 30_encoding.md R69, 10_state.md R21, R25: the wire pairs of the latches; the code 0b01 is never produced. -/
def Obligations.LineCodesOnThePads : Prop :=
  (PullLine.rel.code = 0b00 ∧ PullLine.low.code = 0b10 ∧ CtlLine.rel.code = 0b00 ∧ CtlLine.high.code = 0b11) ∧
  (∀ l : PullLine, l.code ≠ 0b01 ∧ (l = .rel → padLevel l.code = none) ∧ (l = .low → padLevel l.code = some false)) ∧
  (∀ l : CtlLine, l.code ≠ 0b01 ∧ (l = .rel → padLevel l.code = none) ∧ (l = .high → padLevel l.code = some true)) ∧
  (∀ s : State,
    (s.ports.capxOE = true ↔ s.cap.get xAxis = .low) ∧ s.ports.capxOut = false ∧
    (s.ports.capyOE = true ↔ s.cap.get yAxis = .low) ∧ s.ports.capyOut = false ∧
    (∀ r : RowIdx, s.ports.rowOE.getLsbD r.val = true ↔ s.rowl.get r = .low) ∧ s.ports.rowOut = 0 ∧
    (s.ports.cavOE = true ↔ s.cav = .high) ∧ s.ports.cavOut = s.ports.cavOE)

/-- 10_state.md R25, R27, 20_memory.md R44, 30_encoding.md R70: in a step that executes, each strobe is 1 exactly during
its operation; during CLASSIFY the class port shows the new class in the code of R70 and a tag of that class is emitted;
during REPORT the record port shows the report that is emitted, with the new button levels; in every other step nothing
is emitted. A payload has no value while its strobe is 0 (the model's choice, log 9). -/
def Obligations.StrobesShowTheEvents : Prop :=
  (DeviceClass.code .joystick = 1 ∧ DeviceClass.code .trackBall = 0) ∧
  (∀ s t : State, s.draw.rst = false → step s = .next t →
    (s.ports.tagStb = true ↔ s.fetch = .ok .classify) ∧ (s.ports.rptStb = true ↔ s.fetch = .ok .report) ∧
    (s.fetch = .ok .classify → t.out = s.out ++ [.tag t.cls] ∧ s.ports.tagClass = some t.cls.code ∧
      (s.ports.tagClass = some 1 ↔ 220 < (s.axis.get xAxis).toNat ∧ 220 < (s.axis.get yAxis).toNat)) ∧
    (s.fetch = .ok .report → ∃ r : Report, s.ports.rpt = some r ∧ t.out = s.out ++ [.report r] ∧
      r = { cls := s.cls, x := s.axis.get xAxis, y := s.axis.get yAxis
            row0 := s.row.get 0, row1 := s.row.get 1, row2 := s.row.get 2, row3 := s.row.get 3
            topl := s.draw.topN, botl := s.draw.botN }) ∧
    (s.fetch ≠ .ok .classify → s.ports.tagClass = none) ∧ (s.fetch ≠ .ok .report → s.ports.rpt = none) ∧
    (s.fetch ≠ .ok .classify → s.fetch ≠ .ok .report → t.out = s.out)) ∧
  (∀ s : State, s.draw.rst = true → s.ports.tagStb = false ∧ s.ports.rptStb = false)

/-- 20_memory.md R52: no two pad changes are made in one step, except that the two capacitor lines change together. -/
def Obligations.OnePadChangePerStep : Prop :=
  ∀ s t : State, s.draw.rst = false → step s = .next t →
    (t.cav ≠ s.cav → t.rowl = s.rowl ∧ t.cap = s.cap) ∧
    (t.cap ≠ s.cap → t.rowl = s.rowl ∧ t.cav = s.cav ∧ t.cap.get xAxis = t.cap.get yAxis) ∧
    (∀ r q : RowIdx, t.rowl.get r ≠ s.rowl.get r → t.rowl.get q ≠ s.rowl.get q → r = q)

/-! ### The machine as a whole -/

/-- 10_state.md Table R32, R28, R33, 70_reset_and_hazards.md R181: the reset state of every instance, with any parameters and any
inputs to come, meets the location invariant, the ranges and the clock schedule. -/
def Obligations.BootStateMeetsInvariants : Prop :=
  ∀ (cfg : OpenParams) (inputs : List Inputs) (n : Nat),
    (bootState cfg inputs n).Inv ∧ (bootState cfg inputs n).Ranges ∧ (bootState cfg inputs n).OnSchedule

/-- 43_sequencer.md R120, R134, 10_state.md R33: from every state that meets the location invariant, whatever the
input draws are, a step answers a next state, and that state meets the invariant again. -/
def Obligations.StepKeepsInvariantAndNeverStops : Prop :=
  ∀ s : State, s.Inv → ∃ t, step s = .next t ∧ t.Inv

/-- 10_state.md R33, 42_matrix_scanner.md R106, R172: whatever the ROM holds, a step that answers a next state keeps
the ranges: samples at most 227, `TICK` at most 228, at most one row driven, the capacitor lines together. -/
def Obligations.StepKeepsRangesForAnyRom : Prop :=
  ∀ s t : State, s.Ranges → step s = .next t → t.Ranges

/-- 70_reset_and_hazards.md R181, R170: from every state that meets the location invariant and the clock schedule, a
step gives a state on the schedule: `CYC` is a function of the cycles completed, of `UPC` and, in a pass, of `TICK`. -/
def Obligations.StepKeepsTheClockSchedule : Prop :=
  ∀ s t : State, s.Inv → s.OnSchedule → step s = .next t → t.OnSchedule

/-- 70_reset_and_hazards.md R170: timing does not depend on data. Two runs of the same number of steps, with any ROM,
that start at the same `UPC`, `TICK` and `CYC` and meet no reset end at the same `CYC`, `UPC` and `TICK`, whatever
their inputs, samples, snapshots, class and lines are. -/
def Obligations.TimingIndependentOfData : Prop :=
  ∀ (n : Nat) (s s' t t' : State), s.rom = s'.rom → s.cfg = s'.cfg →
    s.upc = s'.upc → s.tick = s'.tick → s.cyc = s'.cyc → NoReset n s → NoReset n s' →
    run n s = .next t → run n s' = .next t' → t.cyc = t'.cyc ∧ t.upc = t'.upc ∧ t.tick = t'.tick

/-- 41_digitizer.md R98, R99, 42_matrix_scanner.md R111, R112, 10_state.md R33, 43_sequencer.md R122, R123: what the
reachable states are like, and that none is stuck. -/
def Obligations.ReachableStatesAreSafe : Prop :=
  ∀ s : State, Reachable s →
    s.upc.toNat ≤ 45 ∧ s.tick.toNat ≤ 228 ∧ (∀ a, (s.axis.get a).toNat ≤ 227) ∧
    (∀ r q : RowIdx, s.rowl.get r = .low → s.rowl.get q = .low → r = q) ∧
    (s.rowl.get 0 = .low ↔ (2 ≤ s.upc.toNat ∧ s.upc.toNat ≤ 4) ∨ (31 ≤ s.upc.toNat ∧ s.upc.toNat ≤ 33)) ∧
    (s.rowl.get 1 = .low ↔ (6 ≤ s.upc.toNat ∧ s.upc.toNat ≤ 8) ∨ (35 ≤ s.upc.toNat ∧ s.upc.toNat ≤ 37)) ∧
    (s.rowl.get 2 = .low ↔ (10 ≤ s.upc.toNat ∧ s.upc.toNat ≤ 12) ∨ (39 ≤ s.upc.toNat ∧ s.upc.toNat ≤ 41)) ∧
    (s.rowl.get 3 = .low ↔ (14 ≤ s.upc.toNat ∧ s.upc.toNat ≤ 29) ∨ (43 ≤ s.upc.toNat ∧ s.upc.toNat ≤ 45) ∨
      (s.upc.toNat = 0 ∧ reports s.out ≠ 0)) ∧
    (∀ a b, s.cap.get a = s.cap.get b) ∧
    (∀ a, s.cap.get a = .rel ↔ (19 ≤ s.upc.toNat ∧ s.upc.toNat ≤ 21) ∨ (26 ≤ s.upc.toNat ∧ s.upc.toNat ≤ 28)) ∧
    (s.cav = .rel ↔ (17 ≤ s.upc.toNat ∧ s.upc.toNat ≤ 23) ∨ (s.upc.toNat ≤ 16 ∧ reports s.out = 0)) ∧
    (∃ t, step s = .next t)

/-- 43_sequencer.md R127, R129, R130: in every reachable state the trace alternates tag and report, tag first, and
every report has the class of the tag before it; at `UPC` 0 it holds whole cycles only. -/
def Obligations.ReachableTracesAlternate : Prop :=
  ∀ s : State, Reachable s →
    (s.upc.toNat = 0 → wholeCycles s.out = true) ∧
    (wholeCycles s.out = true ∨ ∃ es, s.out = es ++ [.tag s.cls] ∧ wholeCycles es = true)

/-- 10_state.md R12, 43_sequencer.md R130: the six phases and their order. From every state that meets the location
invariant, a step without reset stays in its phase or goes to the next one of the fixed cycle, and goes on exactly
at the last operation of the phase. -/
def Obligations.PhasesRunInOrder : Prop :=
  ∀ s t : State, s.Inv → s.draw.rst = false → step s = .next t →
    ∃ p q : Phase, s.phase = some p ∧ t.phase = some q ∧ (q = p ∨ q = p.succ) ∧
      (q = p.succ ↔ s.upc.toNat = 15 ∨ s.upc.toNat = 21 ∨ s.upc.toNat = 22 ∨ s.upc.toNat = 28 ∨
        s.upc.toNat = 44 ∨ s.upc.toNat = 45)

/-- 43_sequencer.md R134, R131, R132, R114, R129, 70_reset_and_hazards.md R181: one outer cycle, for every input
sequence. From every state at `UPC` 0 that meets the location invariant, with no reset in the next 500 steps: after
500 steps `UPC` is 0 again, one tag and one report have been emitted in that order, the tag classified from the
released-phase pass, the report carrying the asserted-phase pass (either with its stale values), the second scan and
the buttons, and `CYC` has grown by the constant of R181. -/
def Obligations.OneCycleEffect : Prop :=
  ∀ s : State, s.Inv → s.upc = 0 → NoReset 500 s →
    ∃ (x y x' y' : Sample) (c : DeviceClass),
      x = sampleAfterPass (s.axis.get xAxis) (s.polls xAxis 20) ∧
      y = sampleAfterPass (s.axis.get yAxis) (s.polls yAxis 20) ∧
      x' = sampleAfterPass x (s.polls xAxis 254) ∧ y' = sampleAfterPass y (s.polls yAxis 254) ∧
      (c = .joystick ↔ 220 < x.toNat ∧ 220 < y.toNat) ∧
      run 500 s = .next { s with
        upc := 0, tick := 228, axis := #v[x', y']
        row := #v[(s.drawAt 486).col, (s.drawAt 490).col, (s.drawAt 494).col, (s.drawAt 498).col]
        cls := c, topl := (s.drawAt 499).topN, botl := (s.drawAt 499).botN
        cap := #v[.low, .low], rowl := #v[.rel, .rel, .rel, .low], cav := .high
        cyc := s.cyc + cycleLength s.cfg
        out := s.out ++ [.tag c, .report
          { cls := c, x := x', y := y'
            row0 := (s.drawAt 486).col, row1 := (s.drawAt 490).col
            row2 := (s.drawAt 494).col, row3 := (s.drawAt 498).col
            topl := (s.drawAt 499).topN, botl := (s.drawAt 499).botN }]
        inputs := s.inputs.drop 500, stepNo := s.stepNo + 500 }

/-- 10_state.md R12, R25, 30_encoding.md R68: the `PHASE` port is a function of `UPC` alone: its code in each range of
addresses, never 6 or 7. For a `UPC` of 46 or more, which no reachable state has, the port has no value (the model's
choice, log 9). -/
def Obligations.PhasePortShowsThePhase : Prop :=
  (∀ s : State,
    (s.ports.phase = some 0 ↔ s.upc.toNat ≤ 15) ∧
    (s.ports.phase = some 1 ↔ 16 ≤ s.upc.toNat ∧ s.upc.toNat ≤ 21) ∧
    (s.ports.phase = some 2 ↔ s.upc.toNat = 22) ∧
    (s.ports.phase = some 3 ↔ 23 ≤ s.upc.toNat ∧ s.upc.toNat ≤ 28) ∧
    (s.ports.phase = some 4 ↔ 29 ≤ s.upc.toNat ∧ s.upc.toNat ≤ 44) ∧
    (s.ports.phase = some 5 ↔ s.upc.toNat = 45) ∧
    s.ports.phase ≠ some 6 ∧ s.ports.phase ≠ some 7 ∧
    (s.ports.phase = none ↔ 46 ≤ s.upc.toNat) ∧ s.ports.phase = s.phase.map Phase.code) ∧
  (Phase.scanPre.code = 0 ∧ Phase.measureReleased.code = 1 ∧ Phase.classify.code = 2 ∧
    Phase.measureAsserted.code = 3 ∧ Phase.scanPost.code = 4 ∧ Phase.report.code = 5)

/-- 70_reset_and_hazards.md R172, 42_matrix_scanner.md R106: the order requirement of R172 on a microprogram, and that it
excludes contention. The check refuses a ROWDRV whose word directly before is not the ROWREL of the row the ROWDRV before
it drove, or, for the first ROWDRV, is no ROWREL; it holds of the core's own program over two cycles, and any list of operations that passes it, run in order from a state
with no row driven, is never refused for contention. Which row "can be driven" is log 18's reading. -/
def Obligations.ReleaseBeforeDriveExcludesContention : Prop :=
  (∀ (p q l : List Instr) (r r' : RowIdx), (∀ x : RowIdx, .rowdrv x ∉ q) → q.getLast? ≠ some (.rowrel r) →
    Program.releaseBeforeDrive none none (p ++ .rowdrv r :: (q ++ .rowdrv r' :: l)) = false) ∧
  (∀ (q l : List Instr) (r : RowIdx), (∀ x : RowIdx, .rowdrv x ∉ q) → (∀ x : RowIdx, q.getLast? ≠ some (.rowrel x)) →
    Program.releaseBeforeDrive none none (q ++ .rowdrv r :: l) = false) ∧
  Program.releaseBeforeDrive none none (cycleOps ++ cycleOps) = true ∧
  (∀ (p : List Instr) (s : State), Program.releaseBeforeDrive none none p = true →
    (∀ r : RowIdx, s.rowl.get r = .rel) → execAll p s ≠ .refused .rowContention)

/-- 70_reset_and_hazards.md R172, R171, 40_timebase.md R81 (f), 30_encoding.md R77: what the checks on a microprogram are
for. Put in the ROM and run from address 0 with no row driven, whatever the inputs are, resets included, a well-formed
microprogram is refused at most where it runs beyond its last word, and one with a REPORT is never refused. Which
microprograms are well formed is log 18's reading of R171 to R175. -/
def Obligations.WellFormedProgramsNeverStop : Prop :=
  ∀ (p : List Instr) (s : State), Program.wellFormed p = true → s.rom = p.map encode → s.upc = 0 →
    (∀ r : RowIdx, s.rowl.get r = .rel) →
      (∀ (k : Nat) (e : Refusal), run k s = .refused e → e = .upcOutOfRom) ∧
      (.report ∈ p → ∀ k : Nat, ∃ t, run k s = .next t)
end

