-- ==== Sys2Proof/Laws/State.lean ====
section
/-! SUPPORT. One lemma per field per update of State, true by rfl, so that no later proof unfolds an update. -/

namespace Sys2Proof.Machine

/-! ### fallThrough -/

@[simp] theorem State.fallThrough_upc (s : State) (n : Nat) : (s.fallThrough n).upc = s.upc + 1 := rfl
@[simp] theorem State.fallThrough_tick (s : State) (n : Nat) : (s.fallThrough n).tick = s.tick := rfl
@[simp] theorem State.fallThrough_axis (s : State) (n : Nat) : (s.fallThrough n).axis = s.axis := rfl
@[simp] theorem State.fallThrough_row (s : State) (n : Nat) : (s.fallThrough n).row = s.row := rfl
@[simp] theorem State.fallThrough_cls (s : State) (n : Nat) : (s.fallThrough n).cls = s.cls := rfl
@[simp] theorem State.fallThrough_topl (s : State) (n : Nat) : (s.fallThrough n).topl = s.topl := rfl
@[simp] theorem State.fallThrough_botl (s : State) (n : Nat) : (s.fallThrough n).botl = s.botl := rfl
@[simp] theorem State.fallThrough_cap (s : State) (n : Nat) : (s.fallThrough n).cap = s.cap := rfl
@[simp] theorem State.fallThrough_rowl (s : State) (n : Nat) : (s.fallThrough n).rowl = s.rowl := rfl
@[simp] theorem State.fallThrough_cav (s : State) (n : Nat) : (s.fallThrough n).cav = s.cav := rfl
@[simp] theorem State.fallThrough_cyc (s : State) (n : Nat) : (s.fallThrough n).cyc = s.cyc + n := rfl
@[simp] theorem State.fallThrough_out (s : State) (n : Nat) : (s.fallThrough n).out = s.out := rfl
@[simp] theorem State.fallThrough_rom (s : State) (n : Nat) : (s.fallThrough n).rom = s.rom := rfl
@[simp] theorem State.fallThrough_cfg (s : State) (n : Nat) : (s.fallThrough n).cfg = s.cfg := rfl
@[simp] theorem State.fallThrough_inputs (s : State) (n : Nat) : (s.fallThrough n).inputs = s.inputs := rfl
@[simp] theorem State.fallThrough_stepNo (s : State) (n : Nat) : (s.fallThrough n).stepNo = s.stepNo := rfl

/-! ### restart -/

@[simp] theorem State.restart_upc (s : State) (n : Nat) : (s.restart n).upc = 0 := rfl
@[simp] theorem State.restart_tick (s : State) (n : Nat) : (s.restart n).tick = s.tick := rfl
@[simp] theorem State.restart_axis (s : State) (n : Nat) : (s.restart n).axis = s.axis := rfl
@[simp] theorem State.restart_row (s : State) (n : Nat) : (s.restart n).row = s.row := rfl
@[simp] theorem State.restart_cls (s : State) (n : Nat) : (s.restart n).cls = s.cls := rfl
@[simp] theorem State.restart_topl (s : State) (n : Nat) : (s.restart n).topl = s.topl := rfl
@[simp] theorem State.restart_botl (s : State) (n : Nat) : (s.restart n).botl = s.botl := rfl
@[simp] theorem State.restart_cap (s : State) (n : Nat) : (s.restart n).cap = s.cap := rfl
@[simp] theorem State.restart_rowl (s : State) (n : Nat) : (s.restart n).rowl = s.rowl := rfl
@[simp] theorem State.restart_cav (s : State) (n : Nat) : (s.restart n).cav = s.cav := rfl
@[simp] theorem State.restart_cyc (s : State) (n : Nat) : (s.restart n).cyc = s.cyc + n := rfl
@[simp] theorem State.restart_out (s : State) (n : Nat) : (s.restart n).out = s.out := rfl
@[simp] theorem State.restart_rom (s : State) (n : Nat) : (s.restart n).rom = s.rom := rfl
@[simp] theorem State.restart_cfg (s : State) (n : Nat) : (s.restart n).cfg = s.cfg := rfl
@[simp] theorem State.restart_inputs (s : State) (n : Nat) : (s.restart n).inputs = s.inputs := rfl
@[simp] theorem State.restart_stepNo (s : State) (n : Nat) : (s.restart n).stepNo = s.stepNo := rfl

/-! ### setRowl -/

@[simp] theorem State.setRowl_upc (s : State) (r : RowIdx) (v : PullLine) : (s.setRowl r v).upc = s.upc := rfl
@[simp] theorem State.setRowl_tick (s : State) (r : RowIdx) (v : PullLine) : (s.setRowl r v).tick = s.tick := rfl
@[simp] theorem State.setRowl_axis (s : State) (r : RowIdx) (v : PullLine) : (s.setRowl r v).axis = s.axis := rfl
@[simp] theorem State.setRowl_row (s : State) (r : RowIdx) (v : PullLine) : (s.setRowl r v).row = s.row := rfl
@[simp] theorem State.setRowl_cls (s : State) (r : RowIdx) (v : PullLine) : (s.setRowl r v).cls = s.cls := rfl
@[simp] theorem State.setRowl_topl (s : State) (r : RowIdx) (v : PullLine) : (s.setRowl r v).topl = s.topl := rfl
@[simp] theorem State.setRowl_botl (s : State) (r : RowIdx) (v : PullLine) : (s.setRowl r v).botl = s.botl := rfl
@[simp] theorem State.setRowl_cap (s : State) (r : RowIdx) (v : PullLine) : (s.setRowl r v).cap = s.cap := rfl
@[simp] theorem State.setRowl_rowl (s : State) (r : RowIdx) (v : PullLine) : (s.setRowl r v).rowl = setAt s.rowl r v := rfl
@[simp] theorem State.setRowl_cav (s : State) (r : RowIdx) (v : PullLine) : (s.setRowl r v).cav = s.cav := rfl
@[simp] theorem State.setRowl_cyc (s : State) (r : RowIdx) (v : PullLine) : (s.setRowl r v).cyc = s.cyc := rfl
@[simp] theorem State.setRowl_out (s : State) (r : RowIdx) (v : PullLine) : (s.setRowl r v).out = s.out := rfl
@[simp] theorem State.setRowl_rom (s : State) (r : RowIdx) (v : PullLine) : (s.setRowl r v).rom = s.rom := rfl
@[simp] theorem State.setRowl_cfg (s : State) (r : RowIdx) (v : PullLine) : (s.setRowl r v).cfg = s.cfg := rfl
@[simp] theorem State.setRowl_inputs (s : State) (r : RowIdx) (v : PullLine) : (s.setRowl r v).inputs = s.inputs := rfl
@[simp] theorem State.setRowl_stepNo (s : State) (r : RowIdx) (v : PullLine) : (s.setRowl r v).stepNo = s.stepNo := rfl

/-! ### setRow -/

@[simp] theorem State.setRow_upc (s : State) (r : RowIdx) (v : Mask) : (s.setRow r v).upc = s.upc := rfl
@[simp] theorem State.setRow_tick (s : State) (r : RowIdx) (v : Mask) : (s.setRow r v).tick = s.tick := rfl
@[simp] theorem State.setRow_axis (s : State) (r : RowIdx) (v : Mask) : (s.setRow r v).axis = s.axis := rfl
@[simp] theorem State.setRow_row (s : State) (r : RowIdx) (v : Mask) : (s.setRow r v).row = setAt s.row r v := rfl
@[simp] theorem State.setRow_cls (s : State) (r : RowIdx) (v : Mask) : (s.setRow r v).cls = s.cls := rfl
@[simp] theorem State.setRow_topl (s : State) (r : RowIdx) (v : Mask) : (s.setRow r v).topl = s.topl := rfl
@[simp] theorem State.setRow_botl (s : State) (r : RowIdx) (v : Mask) : (s.setRow r v).botl = s.botl := rfl
@[simp] theorem State.setRow_cap (s : State) (r : RowIdx) (v : Mask) : (s.setRow r v).cap = s.cap := rfl
@[simp] theorem State.setRow_rowl (s : State) (r : RowIdx) (v : Mask) : (s.setRow r v).rowl = s.rowl := rfl
@[simp] theorem State.setRow_cav (s : State) (r : RowIdx) (v : Mask) : (s.setRow r v).cav = s.cav := rfl
@[simp] theorem State.setRow_cyc (s : State) (r : RowIdx) (v : Mask) : (s.setRow r v).cyc = s.cyc := rfl
@[simp] theorem State.setRow_out (s : State) (r : RowIdx) (v : Mask) : (s.setRow r v).out = s.out := rfl
@[simp] theorem State.setRow_rom (s : State) (r : RowIdx) (v : Mask) : (s.setRow r v).rom = s.rom := rfl
@[simp] theorem State.setRow_cfg (s : State) (r : RowIdx) (v : Mask) : (s.setRow r v).cfg = s.cfg := rfl
@[simp] theorem State.setRow_inputs (s : State) (r : RowIdx) (v : Mask) : (s.setRow r v).inputs = s.inputs := rfl
@[simp] theorem State.setRow_stepNo (s : State) (r : RowIdx) (v : Mask) : (s.setRow r v).stepNo = s.stepNo := rfl

/-! ### setCaps -/

@[simp] theorem State.setCaps_upc (s : State) (v : PullLine) : (s.setCaps v).upc = s.upc := rfl
@[simp] theorem State.setCaps_tick (s : State) (v : PullLine) : (s.setCaps v).tick = s.tick := rfl
@[simp] theorem State.setCaps_axis (s : State) (v : PullLine) : (s.setCaps v).axis = s.axis := rfl
@[simp] theorem State.setCaps_row (s : State) (v : PullLine) : (s.setCaps v).row = s.row := rfl
@[simp] theorem State.setCaps_cls (s : State) (v : PullLine) : (s.setCaps v).cls = s.cls := rfl
@[simp] theorem State.setCaps_topl (s : State) (v : PullLine) : (s.setCaps v).topl = s.topl := rfl
@[simp] theorem State.setCaps_botl (s : State) (v : PullLine) : (s.setCaps v).botl = s.botl := rfl
@[simp] theorem State.setCaps_cap (s : State) (v : PullLine) : (s.setCaps v).cap = Vector.replicate fixedParams.nAxes v := rfl
@[simp] theorem State.setCaps_rowl (s : State) (v : PullLine) : (s.setCaps v).rowl = s.rowl := rfl
@[simp] theorem State.setCaps_cav (s : State) (v : PullLine) : (s.setCaps v).cav = s.cav := rfl
@[simp] theorem State.setCaps_cyc (s : State) (v : PullLine) : (s.setCaps v).cyc = s.cyc := rfl
@[simp] theorem State.setCaps_out (s : State) (v : PullLine) : (s.setCaps v).out = s.out := rfl
@[simp] theorem State.setCaps_rom (s : State) (v : PullLine) : (s.setCaps v).rom = s.rom := rfl
@[simp] theorem State.setCaps_cfg (s : State) (v : PullLine) : (s.setCaps v).cfg = s.cfg := rfl
@[simp] theorem State.setCaps_inputs (s : State) (v : PullLine) : (s.setCaps v).inputs = s.inputs := rfl
@[simp] theorem State.setCaps_stepNo (s : State) (v : PullLine) : (s.setCaps v).stepNo = s.stepNo := rfl

/-! ### setCav -/

@[simp] theorem State.setCav_upc (s : State) (v : CtlLine) : (s.setCav v).upc = s.upc := rfl
@[simp] theorem State.setCav_tick (s : State) (v : CtlLine) : (s.setCav v).tick = s.tick := rfl
@[simp] theorem State.setCav_axis (s : State) (v : CtlLine) : (s.setCav v).axis = s.axis := rfl
@[simp] theorem State.setCav_row (s : State) (v : CtlLine) : (s.setCav v).row = s.row := rfl
@[simp] theorem State.setCav_cls (s : State) (v : CtlLine) : (s.setCav v).cls = s.cls := rfl
@[simp] theorem State.setCav_topl (s : State) (v : CtlLine) : (s.setCav v).topl = s.topl := rfl
@[simp] theorem State.setCav_botl (s : State) (v : CtlLine) : (s.setCav v).botl = s.botl := rfl
@[simp] theorem State.setCav_cap (s : State) (v : CtlLine) : (s.setCav v).cap = s.cap := rfl
@[simp] theorem State.setCav_rowl (s : State) (v : CtlLine) : (s.setCav v).rowl = s.rowl := rfl
@[simp] theorem State.setCav_cav (s : State) (v : CtlLine) : (s.setCav v).cav = v := rfl
@[simp] theorem State.setCav_cyc (s : State) (v : CtlLine) : (s.setCav v).cyc = s.cyc := rfl
@[simp] theorem State.setCav_out (s : State) (v : CtlLine) : (s.setCav v).out = s.out := rfl
@[simp] theorem State.setCav_rom (s : State) (v : CtlLine) : (s.setCav v).rom = s.rom := rfl
@[simp] theorem State.setCav_cfg (s : State) (v : CtlLine) : (s.setCav v).cfg = s.cfg := rfl
@[simp] theorem State.setCav_inputs (s : State) (v : CtlLine) : (s.setCav v).inputs = s.inputs := rfl
@[simp] theorem State.setCav_stepNo (s : State) (v : CtlLine) : (s.setCav v).stepNo = s.stepNo := rfl

/-! ### setTick -/

@[simp] theorem State.setTick_upc (s : State) (v : Sample) : (s.setTick v).upc = s.upc := rfl
@[simp] theorem State.setTick_tick (s : State) (v : Sample) : (s.setTick v).tick = v := rfl
@[simp] theorem State.setTick_axis (s : State) (v : Sample) : (s.setTick v).axis = s.axis := rfl
@[simp] theorem State.setTick_row (s : State) (v : Sample) : (s.setTick v).row = s.row := rfl
@[simp] theorem State.setTick_cls (s : State) (v : Sample) : (s.setTick v).cls = s.cls := rfl
@[simp] theorem State.setTick_topl (s : State) (v : Sample) : (s.setTick v).topl = s.topl := rfl
@[simp] theorem State.setTick_botl (s : State) (v : Sample) : (s.setTick v).botl = s.botl := rfl
@[simp] theorem State.setTick_cap (s : State) (v : Sample) : (s.setTick v).cap = s.cap := rfl
@[simp] theorem State.setTick_rowl (s : State) (v : Sample) : (s.setTick v).rowl = s.rowl := rfl
@[simp] theorem State.setTick_cav (s : State) (v : Sample) : (s.setTick v).cav = s.cav := rfl
@[simp] theorem State.setTick_cyc (s : State) (v : Sample) : (s.setTick v).cyc = s.cyc := rfl
@[simp] theorem State.setTick_out (s : State) (v : Sample) : (s.setTick v).out = s.out := rfl
@[simp] theorem State.setTick_rom (s : State) (v : Sample) : (s.setTick v).rom = s.rom := rfl
@[simp] theorem State.setTick_cfg (s : State) (v : Sample) : (s.setTick v).cfg = s.cfg := rfl
@[simp] theorem State.setTick_inputs (s : State) (v : Sample) : (s.setTick v).inputs = s.inputs := rfl
@[simp] theorem State.setTick_stepNo (s : State) (v : Sample) : (s.setTick v).stepNo = s.stepNo := rfl

/-! ### setCls -/

@[simp] theorem State.setCls_upc (s : State) (c : DeviceClass) : (s.setCls c).upc = s.upc := rfl
@[simp] theorem State.setCls_tick (s : State) (c : DeviceClass) : (s.setCls c).tick = s.tick := rfl
@[simp] theorem State.setCls_axis (s : State) (c : DeviceClass) : (s.setCls c).axis = s.axis := rfl
@[simp] theorem State.setCls_row (s : State) (c : DeviceClass) : (s.setCls c).row = s.row := rfl
@[simp] theorem State.setCls_cls (s : State) (c : DeviceClass) : (s.setCls c).cls = c := rfl
@[simp] theorem State.setCls_topl (s : State) (c : DeviceClass) : (s.setCls c).topl = s.topl := rfl
@[simp] theorem State.setCls_botl (s : State) (c : DeviceClass) : (s.setCls c).botl = s.botl := rfl
@[simp] theorem State.setCls_cap (s : State) (c : DeviceClass) : (s.setCls c).cap = s.cap := rfl
@[simp] theorem State.setCls_rowl (s : State) (c : DeviceClass) : (s.setCls c).rowl = s.rowl := rfl
@[simp] theorem State.setCls_cav (s : State) (c : DeviceClass) : (s.setCls c).cav = s.cav := rfl
@[simp] theorem State.setCls_cyc (s : State) (c : DeviceClass) : (s.setCls c).cyc = s.cyc := rfl
@[simp] theorem State.setCls_out (s : State) (c : DeviceClass) : (s.setCls c).out = s.out := rfl
@[simp] theorem State.setCls_rom (s : State) (c : DeviceClass) : (s.setCls c).rom = s.rom := rfl
@[simp] theorem State.setCls_cfg (s : State) (c : DeviceClass) : (s.setCls c).cfg = s.cfg := rfl
@[simp] theorem State.setCls_inputs (s : State) (c : DeviceClass) : (s.setCls c).inputs = s.inputs := rfl
@[simp] theorem State.setCls_stepNo (s : State) (c : DeviceClass) : (s.setCls c).stepNo = s.stepNo := rfl

/-! ### setButtons -/

@[simp] theorem State.setButtons_upc (s : State) (t b : Bool) : (s.setButtons t b).upc = s.upc := rfl
@[simp] theorem State.setButtons_tick (s : State) (t b : Bool) : (s.setButtons t b).tick = s.tick := rfl
@[simp] theorem State.setButtons_axis (s : State) (t b : Bool) : (s.setButtons t b).axis = s.axis := rfl
@[simp] theorem State.setButtons_row (s : State) (t b : Bool) : (s.setButtons t b).row = s.row := rfl
@[simp] theorem State.setButtons_cls (s : State) (t b : Bool) : (s.setButtons t b).cls = s.cls := rfl
@[simp] theorem State.setButtons_topl (s : State) (t b : Bool) : (s.setButtons t b).topl = t := rfl
@[simp] theorem State.setButtons_botl (s : State) (t b : Bool) : (s.setButtons t b).botl = b := rfl
@[simp] theorem State.setButtons_cap (s : State) (t b : Bool) : (s.setButtons t b).cap = s.cap := rfl
@[simp] theorem State.setButtons_rowl (s : State) (t b : Bool) : (s.setButtons t b).rowl = s.rowl := rfl
@[simp] theorem State.setButtons_cav (s : State) (t b : Bool) : (s.setButtons t b).cav = s.cav := rfl
@[simp] theorem State.setButtons_cyc (s : State) (t b : Bool) : (s.setButtons t b).cyc = s.cyc := rfl
@[simp] theorem State.setButtons_out (s : State) (t b : Bool) : (s.setButtons t b).out = s.out := rfl
@[simp] theorem State.setButtons_rom (s : State) (t b : Bool) : (s.setButtons t b).rom = s.rom := rfl
@[simp] theorem State.setButtons_cfg (s : State) (t b : Bool) : (s.setButtons t b).cfg = s.cfg := rfl
@[simp] theorem State.setButtons_inputs (s : State) (t b : Bool) : (s.setButtons t b).inputs = s.inputs := rfl
@[simp] theorem State.setButtons_stepNo (s : State) (t b : Bool) : (s.setButtons t b).stepNo = s.stepNo := rfl

/-! ### emit -/

@[simp] theorem State.emit_upc (s : State) (e : Event) : (s.emit e).upc = s.upc := rfl
@[simp] theorem State.emit_tick (s : State) (e : Event) : (s.emit e).tick = s.tick := rfl
@[simp] theorem State.emit_axis (s : State) (e : Event) : (s.emit e).axis = s.axis := rfl
@[simp] theorem State.emit_row (s : State) (e : Event) : (s.emit e).row = s.row := rfl
@[simp] theorem State.emit_cls (s : State) (e : Event) : (s.emit e).cls = s.cls := rfl
@[simp] theorem State.emit_topl (s : State) (e : Event) : (s.emit e).topl = s.topl := rfl
@[simp] theorem State.emit_botl (s : State) (e : Event) : (s.emit e).botl = s.botl := rfl
@[simp] theorem State.emit_cap (s : State) (e : Event) : (s.emit e).cap = s.cap := rfl
@[simp] theorem State.emit_rowl (s : State) (e : Event) : (s.emit e).rowl = s.rowl := rfl
@[simp] theorem State.emit_cav (s : State) (e : Event) : (s.emit e).cav = s.cav := rfl
@[simp] theorem State.emit_cyc (s : State) (e : Event) : (s.emit e).cyc = s.cyc := rfl
@[simp] theorem State.emit_out (s : State) (e : Event) : (s.emit e).out = s.out ++ [e] := rfl
@[simp] theorem State.emit_rom (s : State) (e : Event) : (s.emit e).rom = s.rom := rfl
@[simp] theorem State.emit_cfg (s : State) (e : Event) : (s.emit e).cfg = s.cfg := rfl
@[simp] theorem State.emit_inputs (s : State) (e : Event) : (s.emit e).inputs = s.inputs := rfl
@[simp] theorem State.emit_stepNo (s : State) (e : Event) : (s.emit e).stepNo = s.stepNo := rfl

/-! ### runTick -/

@[simp] theorem State.runTick_upc (s : State) (trip : PerAxis Bool) : (s.runTick trip).upc = s.tickTarget := rfl
@[simp] theorem State.runTick_tick (s : State) (trip : PerAxis Bool) : (s.runTick trip).tick = s.tick + 1 := rfl
@[simp] theorem State.runTick_axis (s : State) (trip : PerAxis Bool) : (s.runTick trip).axis =
    Vector.ofFn fun a => captured (trip.get a) s.tick (s.axis.get a) := rfl
@[simp] theorem State.runTick_row (s : State) (trip : PerAxis Bool) : (s.runTick trip).row = s.row := rfl
@[simp] theorem State.runTick_cls (s : State) (trip : PerAxis Bool) : (s.runTick trip).cls = s.cls := rfl
@[simp] theorem State.runTick_topl (s : State) (trip : PerAxis Bool) : (s.runTick trip).topl = s.topl := rfl
@[simp] theorem State.runTick_botl (s : State) (trip : PerAxis Bool) : (s.runTick trip).botl = s.botl := rfl
@[simp] theorem State.runTick_cap (s : State) (trip : PerAxis Bool) : (s.runTick trip).cap = s.cap := rfl
@[simp] theorem State.runTick_rowl (s : State) (trip : PerAxis Bool) : (s.runTick trip).rowl = s.rowl := rfl
@[simp] theorem State.runTick_cav (s : State) (trip : PerAxis Bool) : (s.runTick trip).cav = s.cav := rfl
@[simp] theorem State.runTick_cyc (s : State) (trip : PerAxis Bool) : (s.runTick trip).cyc = s.cyc + s.cfg.tickCycles := rfl
@[simp] theorem State.runTick_out (s : State) (trip : PerAxis Bool) : (s.runTick trip).out = s.out := rfl
@[simp] theorem State.runTick_rom (s : State) (trip : PerAxis Bool) : (s.runTick trip).rom = s.rom := rfl
@[simp] theorem State.runTick_cfg (s : State) (trip : PerAxis Bool) : (s.runTick trip).cfg = s.cfg := rfl
@[simp] theorem State.runTick_inputs (s : State) (trip : PerAxis Bool) : (s.runTick trip).inputs = s.inputs := rfl
@[simp] theorem State.runTick_stepNo (s : State) (trip : PerAxis Bool) : (s.runTick trip).stepNo = s.stepNo := rfl

/-! ### advanceInputs -/

@[simp] theorem State.advanceInputs_upc (s : State) : (s.advanceInputs).upc = s.upc := rfl
@[simp] theorem State.advanceInputs_tick (s : State) : (s.advanceInputs).tick = s.tick := rfl
@[simp] theorem State.advanceInputs_axis (s : State) : (s.advanceInputs).axis = s.axis := rfl
@[simp] theorem State.advanceInputs_row (s : State) : (s.advanceInputs).row = s.row := rfl
@[simp] theorem State.advanceInputs_cls (s : State) : (s.advanceInputs).cls = s.cls := rfl
@[simp] theorem State.advanceInputs_topl (s : State) : (s.advanceInputs).topl = s.topl := rfl
@[simp] theorem State.advanceInputs_botl (s : State) : (s.advanceInputs).botl = s.botl := rfl
@[simp] theorem State.advanceInputs_cap (s : State) : (s.advanceInputs).cap = s.cap := rfl
@[simp] theorem State.advanceInputs_rowl (s : State) : (s.advanceInputs).rowl = s.rowl := rfl
@[simp] theorem State.advanceInputs_cav (s : State) : (s.advanceInputs).cav = s.cav := rfl
@[simp] theorem State.advanceInputs_cyc (s : State) : (s.advanceInputs).cyc = s.cyc := rfl
@[simp] theorem State.advanceInputs_out (s : State) : (s.advanceInputs).out = s.out := rfl
@[simp] theorem State.advanceInputs_rom (s : State) : (s.advanceInputs).rom = s.rom := rfl
@[simp] theorem State.advanceInputs_cfg (s : State) : (s.advanceInputs).cfg = s.cfg := rfl
@[simp] theorem State.advanceInputs_inputs (s : State) : (s.advanceInputs).inputs = s.inputs.tail := rfl
@[simp] theorem State.advanceInputs_stepNo (s : State) : (s.advanceInputs).stepNo = s.stepNo + 1 := rfl

/-! ### takeReset: the values of Table R32 -/

@[simp] theorem State.takeReset_upc (s : State) : s.takeReset.upc = 0 := rfl
@[simp] theorem State.takeReset_tick (s : State) : s.takeReset.tick = 0 := rfl
@[simp] theorem State.takeReset_axis (s : State) : s.takeReset.axis = #v[0, 0] := rfl
@[simp] theorem State.takeReset_row (s : State) : s.takeReset.row = #v[0xF, 0xF, 0xF, 0xF] := rfl
@[simp] theorem State.takeReset_cls (s : State) : s.takeReset.cls = .trackBall := rfl
@[simp] theorem State.takeReset_topl (s : State) : s.takeReset.topl = true := rfl
@[simp] theorem State.takeReset_botl (s : State) : s.takeReset.botl = true := rfl
@[simp] theorem State.takeReset_cap (s : State) : s.takeReset.cap = #v[.low, .low] := rfl
@[simp] theorem State.takeReset_rowl (s : State) : s.takeReset.rowl = #v[.rel, .rel, .rel, .rel] := rfl
@[simp] theorem State.takeReset_cav (s : State) : s.takeReset.cav = .rel := rfl
@[simp] theorem State.takeReset_cyc (s : State) : s.takeReset.cyc = 0 := rfl
@[simp] theorem State.takeReset_out (s : State) : s.takeReset.out = [] := rfl
@[simp] theorem State.takeReset_rom (s : State) : s.takeReset.rom = s.rom := rfl
@[simp] theorem State.takeReset_cfg (s : State) : s.takeReset.cfg = s.cfg := rfl
@[simp] theorem State.takeReset_inputs (s : State) : s.takeReset.inputs = s.inputs.tail := rfl
@[simp] theorem State.takeReset_stepNo (s : State) : s.takeReset.stepNo = s.stepNo + 1 := rfl

/-! ### The parameters as numbers -/

@[simp] theorem fixedParams_nAxes : fixedParams.nAxes = 2 := rfl
@[simp] theorem fixedParams_sampleBits : fixedParams.sampleBits = 8 := rfl
@[simp] theorem fixedParams_nRows : fixedParams.nRows = 4 := rfl
@[simp] theorem fixedParams_nCols : fixedParams.nCols = 4 := rfl
@[simp] theorem fixedParams_nTicks : fixedParams.nTicks = 228 := rfl
@[simp] theorem fixedParams_tickMax : fixedParams.tickMax = 227 := rfl
@[simp] theorem fixedParams_classThreshold : fixedParams.classThreshold = 220 := rfl
@[simp] theorem romWords_eq : romWords = 46 := rfl

end Sys2Proof.Machine
end

