-- ==== Sys2Proof/Laws/Ops.lean ====
section
/-! SUPPORT. For each shared operation, what it does, said once. -/

namespace Sys2Proof.Machine

/-! ### Indexed storage (R41) and the things of each axis -/

/-- Two vectors that read the same at every index are the same. -/
theorem vector_ext_get {α : Type} {n : Nat} {a b : Vector α n} (h : ∀ i : Fin n, a.get i = b.get i) : a = b := by
  ext i hi
  simpa [Vector.get_eq_getElem] using h ⟨i, hi⟩

theorem get_setAt {α : Type} (a : PerRow α) (r q : RowIdx) (v : α) :
    (setAt a r v).get q = if q = r then v else a.get q := by
  simp only [setAt, Vector.get_eq_getElem, Vector.getElem_set, Fin.ext_iff, eq_comm]

@[simp] theorem get_setAt_same {α : Type} (a : PerRow α) (r : RowIdx) (v : α) : (setAt a r v).get r = v := by
  rw [get_setAt, if_pos rfl]

theorem get_setAt_other {α : Type} (a : PerRow α) {r q : RowIdx} (v : α) (h : q ≠ r) :
    (setAt a r v).get q = a.get q := by
  rw [get_setAt, if_neg h]

/-- Writing what is there already changes nothing (R48). -/
theorem setAt_get_self {α : Type} (a : PerRow α) (r : RowIdx) : setAt a r (a.get r) = a :=
  vector_ext_get fun q => by rw [get_setAt]; split <;> simp_all

/-- A vector over the axes, element by element. -/
theorem ofFn_axes {α : Type} (f : AxisIdx → α) : (Vector.ofFn f : PerAxis α) = #v[f xAxis, f yAxis] := rfl

/-- A vector over the rows, element by element. -/
theorem ofFn_rows {α : Type} (f : RowIdx → α) : (Vector.ofFn f : PerRow α) = #v[f 0, f 1, f 2, f 3] := rfl

/-- The samples after a tick, one axis at a time (R92). -/
theorem State.runTick_axis_get (s : State) (trip : PerAxis Bool) (a : AxisIdx) :
    (s.runTick trip).axis.get a = captured (trip.get a) s.tick (s.axis.get a) := by simp

/-- The capacitor latches after a write, one axis at a time (R95, R96). -/
theorem State.setCaps_cap_get (s : State) (v : PullLine) (a : AxisIdx) : (s.setCaps v).cap.get a = v := by simp

theorem otherRowLow_iff (rowl : PerRow PullLine) (r : RowIdx) :
    otherRowLow rowl r = true ↔ ∃ q : RowIdx, q ≠ r ∧ rowl.get q = .low := by
  simp [otherRowLow]

/-! ### Input draws -/

theorem State.draw_eq_drawAt (s : State) : s.draw = s.drawAt 0 := by
  cases h : s.inputs <;> simp [State.draw, State.drawAt, h]

theorem State.draw_scheduled {s : State} {i : Inputs} {is : List Inputs} (h : s.inputs = i :: is) :
    s.draw = i := by
  simp [State.draw, h]

theorem State.draw_unscheduled {s : State} (h : s.inputs = []) : s.draw = Inputs.free s.stepNo := by
  simp [State.draw, h]

@[simp] theorem Inputs.free_rst (n : Nat) : (Inputs.free n).rst = false := rfl

@[simp] theorem State.drawAt_advanceInputs (s : State) (k : Nat) :
    s.advanceInputs.drawAt k = s.drawAt (k + 1) := by
  cases h : s.inputs <;> simp [State.drawAt, h, Nat.add_comm, Nat.add_left_comm]

/-- The draws depend on nothing but the schedule and the step number. -/
theorem State.drawAt_congr {s t : State} (hi : t.inputs = s.inputs) (hn : t.stepNo = s.stepNo) (k : Nat) :
    t.drawAt k = s.drawAt k := by
  simp [State.drawAt, hi, hn]

theorem State.draw_congr {s t : State} (hi : t.inputs = s.inputs) (hn : t.stepNo = s.stepNo) :
    t.draw = s.draw := by
  simp [State.draw_eq_drawAt, State.drawAt_congr hi hn]

/-! ### Flags and captures -/

theorem classOf_joystick_iff (axis : PerAxis Sample) :
    classOf axis = .joystick ↔ ∀ a : AxisIdx, 220 < (axis.get a).toNat := by
  unfold classOf
  split <;> simp_all

/-- The same with the two axes named. -/
theorem classOf_joystick_iff_xy (axis : PerAxis Sample) :
    classOf axis = .joystick ↔ 220 < (axis.get xAxis).toNat ∧ 220 < (axis.get yAxis).toNat :=
  (classOf_joystick_iff axis).trans Fin.forall_fin_two

theorem classOf_comm (x y : Sample) : classOf #v[x, y] = classOf #v[y, x] := by
  have h : classOf #v[x, y] = .joystick ↔ classOf #v[y, x] = .joystick := by
    rw [classOf_joystick_iff_xy, classOf_joystick_iff_xy]
    exact and_comm
  cases hx : classOf #v[x, y] <;> cases hy : classOf #v[y, x] <;> simp_all

@[simp] theorem captured_true (tick old : Sample) : captured true tick old = tick := rfl

@[simp] theorem captured_false (tick old : Sample) : captured false tick old = old := rfl

/-- A capture stays within a bound that both values are within. -/
theorem captured_le {n : Nat} {tick old : Sample} (b : Bool) (ht : tick.toNat ≤ n) (ho : old.toNat ≤ n) :
    (captured b tick old).toNat ≤ n := by
  cases b <;> assumption

/-- R84: the increment of a tick below `N_TICKS` does not overflow. -/
theorem tick_succ_toNat {t : Sample} (h : t.toNat < 228) : (t + 1).toNat = t.toNat + 1 := by
  bv_omega

/-- The increment of an address the ROM has does not wrap. -/
theorem upc_succ_toNat {u : Upc} (h : u.toNat ≤ 45) : (u + 1).toNat = u.toNat + 1 := by
  bv_omega

/-! ### Fetch -/

/-- When the fetch answers an instruction. -/
theorem State.fetch_eq_ok_iff (s : State) (i : Instr) :
    s.fetch = .ok i ↔ s.upc.toNat < 46 ∧ ∃ w, s.rom[s.upc.toNat]? = some w ∧ decode w = .instr i := by
  unfold State.fetch
  by_cases hu : romWords ≤ s.upc.toNat
  · simp only [hu, if_true]
    simp only [romWords_eq] at hu
    exact ⟨fun h => by simp at h, fun h => by omega⟩
  · simp only [hu, if_false]
    simp only [romWords_eq, not_le] at hu
    cases hw : s.rom[s.upc.toNat]? with
    | none => simp
    | some w => cases hd : decode w <;> simp [hd, hu]

/-- When the fetch is refused, and with which reason. -/
theorem State.fetch_eq_error_iff (s : State) (r : Refusal) :
    s.fetch = .error r ↔
      (r = .upcOutOfRom ∧ (46 ≤ s.upc.toNat ∨ s.rom[s.upc.toNat]? = none)) ∨
      (r = .reservedMicroword ∧ s.upc.toNat < 46 ∧
        ∃ w why, s.rom[s.upc.toNat]? = some w ∧ decode w = .reserved why) := by
  unfold State.fetch
  by_cases hu : romWords ≤ s.upc.toNat
  · simp only [hu, if_true]
    simp only [romWords_eq] at hu
    have hn : ¬s.upc.toNat < 46 := by omega
    simp [hu, hn, eq_comm]
  · simp only [hu, if_false]
    simp only [romWords_eq, not_le] at hu
    have hn : ¬46 ≤ s.upc.toNat := by omega
    cases hw : s.rom[s.upc.toNat]? with
    | none => simp [eq_comm]
    | some w => cases hd : decode w <;> simp [hd, hu, hn, eq_comm]

/-- The fetch looks at the ROM and `UPC` alone. -/
theorem State.fetch_congr {s t : State} (hu : t.upc = s.upc) (hr : t.rom = s.rom) : t.fetch = s.fetch := by
  unfold State.fetch
  rw [hu, hr]

/-! ### Outcomes -/

@[simp] theorem mapNext_next (f : State → State) (s : State) : mapNext f (.next s) = .next (f s) := rfl

@[simp] theorem mapNext_refused (f : State → State) (r : Refusal) : mapNext f (.refused r) = .refused r := rfl

theorem mapNext_eq_next_iff (f : State → State) (o : Host.Outcome State Fault Refusal) (t : State) :
    mapNext f o = .next t ↔ ∃ u, o = .next u ∧ f u = t := by
  cases o <;> simp [mapNext]

theorem mapNext_eq_refused_iff (f : State → State) (o : Host.Outcome State Fault Refusal) (r : Refusal) :
    mapNext f o = .refused r ↔ o = .refused r := by
  cases o <;> simp [mapNext]

/-! ### Rounds of a microprogram -/

/-- A microprogram restarts exactly if it has a REPORT. -/
theorem round?_isSome_iff (p : List Instr) : (Program.round? p).isSome = true ↔ Instr.report ∈ p := by
  induction p with
  | nil => simp [Program.round?]
  | cons i p ih => cases i <;> simp [Program.round?, ih]

/-- A round is the words before the first REPORT, and the REPORT. -/
theorem round?_eq_some {p c : List Instr} (h : Program.round? p = some c) :
    ∃ q l, c = q ++ [.report] ∧ p = q ++ .report :: l ∧ Instr.report ∉ q := by
  induction p generalizing c with
  | nil => simp [Program.round?] at h
  | cons i p ih =>
    cases i <;> simp only [Program.round?, Option.map_eq_some_iff, Option.some.injEq] at h
    case report => exact ⟨[], p, by simp [← h]⟩
    all_goals
      obtain ⟨d, hd, rfl⟩ := h
      obtain ⟨q, l, rfl, rfl, hq⟩ := ih hd
      exact ⟨_ :: q, l, rfl, rfl, by simp [hq]⟩

/-! ### Placing a word -/

theorem placeWord_get_same (ws : List Microword) (a : Nat) (w : Microword) : (placeWord ws a w)[a]? = some w := by
  induction a generalizing ws with
  | zero => cases ws <;> rfl
  | succ a ih => cases ws <;> simpa [placeWord] using ih _

theorem placeWord_get_other (ws : List Microword) (a b : Nat) (w : Microword) (hb : b < ws.length) (h : b ≠ a) :
    (placeWord ws a w)[b]? = ws[b]? := by
  induction ws generalizing a b with
  | nil => simp at hb
  | cons v ws ih =>
    cases a with
    | zero => cases b with
      | zero => exact absurd rfl h
      | succ b => rfl
    | succ a => cases b with
      | zero => rfl
      | succ b => simpa [placeWord] using ih a b (by simpa using hb) (by omega)

/-- The addresses below the placed one that did not exist hold the reserved word 0xFF. -/
theorem placeWord_get_filled (ws : List Microword) (a b : Nat) (w : Microword) (hb : ws.length ≤ b) (h : b < a) :
    (placeWord ws a w)[b]? = some 0xFF := by
  induction a generalizing ws b with
  | zero => omega
  | succ a ih =>
    cases ws with
    | nil => cases b with
      | zero => rfl
      | succ b => simpa [placeWord] using ih [] b (by simp) (by omega)
    | cons v ws => cases b with
      | zero => simp at hb
      | succ b => simpa [placeWord] using ih ws b (by simpa using hb) (by omega)

theorem placeWord_length (ws : List Microword) (a : Nat) (w : Microword) :
    (placeWord ws a w).length = max ws.length (a + 1) := by
  induction a generalizing ws with
  | zero => cases ws <;> simp [placeWord]
  | succ a ih => cases ws <;> simp [placeWord, ih]

end Sys2Proof.Machine
end

