-- ==== Sys2Proof/Laws/PerInstr.lean ====
section
/-! SUPPORT. Statements about every instruction, one lemma per constructor. -/

namespace Sys2Proof.Laws.EncodedWord

/-- The word of an instruction is one of the valid microwords (R65), and writing the instruction down and reading it
again gives it back (R74). -/
def Statement (i : Instr) : Prop :=
  Microword.valid (encode i) = true ∧
    Machine.parse (Machine.mnemonic i) ((Machine.rowOperand i).map Fin.val) = some i

theorem rowrel (r : RowIdx) : Statement (.rowrel r) := by revert r; unfold Statement; decide
theorem rowdrv (r : RowIdx) : Statement (.rowdrv r) := by revert r; unfold Statement; decide
theorem dwell : Statement .dwell := by unfold Statement; decide
theorem colsmp (r : RowIdx) : Statement (.colsmp r) := by revert r; unfold Statement; decide
theorem cavrel : Statement .cavrel := by unfold Statement; decide
theorem cavasr : Statement .cavasr := by unfold Statement; decide
theorem settle : Statement .settle := by unfold Statement; decide
theorem caprel : Statement .caprel := by unfold Statement; decide
theorem tbrst : Statement .tbrst := by unfold Statement; decide
theorem tbrun : Statement .tbrun := by unfold Statement; decide
theorem capdis : Statement .capdis := by unfold Statement; decide
theorem classify : Statement .classify := by unfold Statement; decide
theorem report : Statement .report := by unfold Statement; decide

end Sys2Proof.Laws.EncodedWord
end

