-- ==== Sys2Proof/Laws/Step.lean ====
section
/-! SUPPORT. What an instruction and a step can do, said once; runs; and the reading of a pass's polls. -/

namespace Sys2Proof.Machine

/-! ### Instructions -/

/-- ROWDRV answers a next state exactly when no other row is driven. -/
theorem execRowdrv_eq_next_iff (r : RowIdx) (s t : State) :
    execRowdrv r s = .next t ↔
      (∀ q : RowIdx, q ≠ r → s.rowl.get q ≠ .low) ∧ t = (s.setRowl r .low).fallThrough s.cfg.opCycles := by
  have h := otherRowLow_iff s.rowl r
  unfold execRowdrv
  cases ho : otherRowLow s.rowl r with
  | true =>
    obtain ⟨q, hq, hl⟩ := h.mp ho
    simp only [if_true, reduceCtorEq, false_iff, not_and]
    exact fun hn => absurd hl (hn q hq)
  | false =>
    have hn : ∀ q : RowIdx, q ≠ r → s.rowl.get q ≠ .low := fun q hq hl => by
      simp [h.mpr ⟨q, hq, hl⟩] at ho
    rw [if_neg (by simp), Host.Outcome.next.injEq]
    exact ⟨fun h => ⟨hn, h.symm⟩, fun h => h.2.symm⟩

/-- TBRUN answers a next state exactly when `TICK` is below `N_TICKS`. -/
theorem execTbrun_eq_next_iff (s t : State) :
    execTbrun s = .next t ↔ s.tick.toNat < 228 ∧ t = s.runTick s.draw.cmpTrip := by
  unfold execTbrun
  by_cases h : s.tick.toNat < 228 <;> simp [h, eq_comm]

/-- What an instruction can do: one case per operation, with the guards of the two that have one. -/
theorem exec_cases {i : Instr} {s t : State} (h : exec i s = .next t) :
    (∃ r, i = .rowrel r ∧ t = (s.setRowl r .rel).fallThrough s.cfg.opCycles) ∨
    (∃ r, i = .rowdrv r ∧ (∀ q : RowIdx, q ≠ r → s.rowl.get q ≠ .low) ∧
      t = (s.setRowl r .low).fallThrough s.cfg.opCycles) ∨
    (i = .dwell ∧ t = s.fallThrough s.cfg.dwellCycles) ∨
    (∃ r, i = .colsmp r ∧ t = (s.setRow r s.draw.col).fallThrough s.cfg.opCycles) ∨
    (i = .cavrel ∧ t = (s.setCav .rel).fallThrough s.cfg.opCycles) ∨
    (i = .cavasr ∧ t = (s.setCav .high).fallThrough s.cfg.opCycles) ∨
    (i = .settle ∧ t = s.fallThrough s.cfg.settleCycles) ∨
    (i = .caprel ∧ t = (s.setCaps .rel).fallThrough s.cfg.opCycles) ∨
    (i = .tbrst ∧ t = (s.setTick 0).fallThrough s.cfg.opCycles) ∨
    (i = .tbrun ∧ s.tick.toNat < 228 ∧ t = s.runTick s.draw.cmpTrip) ∨
    (i = .capdis ∧ t = (s.setCaps .low).fallThrough s.cfg.opCycles) ∨
    (i = .classify ∧ t = ((s.setCls (classOf s.axis)).emit
      (.tag (classOf s.axis))).fallThrough s.cfg.classifyCycles) ∨
    (i = .report ∧ t = ((s.setButtons s.draw.topN s.draw.botN).emit
      (.report (s.reportOf s.draw.topN s.draw.botN))).restart s.cfg.reportCycles) := by
  cases i with
  | rowdrv r => simpa using (execRowdrv_eq_next_iff r s t).mp h
  | tbrun => simpa using (execTbrun_eq_next_iff s t).mp h
  | _ => cases h; simp

/-- No operation touches the ROM, the parameters or the environment's draws (R8, R42). -/
theorem exec_keeps_setting {i : Instr} {s t : State} (h : exec i s = .next t) :
    t.rom = s.rom ∧ t.cfg = s.cfg ∧ t.inputs = s.inputs ∧ t.stepNo = s.stepNo := by
  cases i with
  | rowdrv r => obtain ⟨-, rfl⟩ := (execRowdrv_eq_next_iff r s t).mp h; simp
  | tbrun => obtain ⟨-, rfl⟩ := (execTbrun_eq_next_iff s t).mp h; simp
  | _ => cases h; simp

/-! ### Placing a word -/

@[simp] theorem State.withFetchWord_upc (s : State) (n w : Nat) : (s.withFetchWord n w).upc = s.placeAddress := rfl
@[simp] theorem State.withFetchWord_rom (s : State) (n w : Nat) :
    (s.withFetchWord n w).rom = placeWord s.rom s.placeAddress.toNat (BitVec.ofNat 8 (w % 2 ^ n)) := rfl
@[simp] theorem State.withFetchWord_inputs (s : State) (n w : Nat) :
    (s.withFetchWord n w).inputs = releaseRst s.inputs := rfl

/-! ### Steps -/

/-- When a step answers a next state, and which. -/
theorem step_eq_next_iff (s t : State) :
    step s = .next t ↔
      (s.draw.rst = true ∧ t = s.takeReset) ∨
      (s.draw.rst = false ∧ ∃ i u, s.fetch = .ok i ∧ exec i s = .next u ∧ t = u.advanceInputs) := by
  unfold step
  cases hr : s.draw.rst with
  | true => simp [eq_comm]
  | false =>
    cases hf : s.fetch with
    | error r => simp
    | ok i => simp only [mapNext_eq_next_iff]; simp [eq_comm]

/-! ### Runs -/

theorem run_zero (s : State) : run 0 s = .next s := rfl

/-- A function with the equations of the host's run is the host's run. -/
theorem core_run_unique (M : Host.Core) (r : Nat → M.State → Host.Outcome M.State M.Fault M.Refusal)
    (h0 : ∀ s, r 0 s = .next s)
    (hs : ∀ k s, r (k + 1) s = match M.step s with
      | .next t => r k t
      | .fault e => .fault e
      | .refused e => .refused e) (k : Nat) (s : M.State) : M.run k s = r k s := by
  induction k generalizing s with
  | zero => rw [h0]; rfl
  | succ k ih =>
    rw [hs, Host.Core.run]
    cases M.step s with
    | next t => exact ih t
    | fault e => rfl
    | refused e => rfl

theorem run_succ_eq (k : Nat) (s : State) :
    run (k + 1) s = match step s with
      | .next t => run k t
      | .fault e => .fault e
      | .refused e => .refused e := by
  cases h : step s <;> simp [run, h]

/-- The host's run of the core is `run`. -/
theorem core_run_eq_run (k : Nat) (s : State) : Sys2Proof.core.run k s = run k s := by
  refine core_run_unique Sys2Proof.core run (fun _ => rfl) (fun k s => ?_) k s
  refine (run_succ_eq k s).trans ?_
  have hc : Sys2Proof.core.step s = step s := rfl
  rw [hc]
  cases step s <;> rfl

theorem run_succ {s t : State} (h : step s = .next t) (k : Nat) : run (k + 1) s = run k t := by
  rw [run_succ_eq, h]

theorem run_add {s t : State} {j : Nat} (h : run j s = .next t) (k : Nat) : run (j + k) s = run k t := by
  induction j generalizing s with
  | zero => cases h; simp
  | succ j ih =>
    rw [run_succ_eq] at h
    cases hst : step s with
    | next u =>
      rw [hst] at h
      rw [show j + 1 + k = (j + k) + 1 by omega, run_succ hst]
      exact ih h
    | fault r => rw [hst] at h; cases h
    | refused r => rw [hst] at h; cases h

/-- Where a run leads from a reachable state is reachable. -/
theorem Reachable.run {s t : State} {k : Nat} (hs : Reachable s) (h : Machine.run k s = .next t) : Reachable t := by
  induction k generalizing s with
  | zero => cases h; exact hs
  | succ k ih =>
    rw [run_succ_eq] at h
    cases hst : Machine.step s with
    | next u => rw [hst] at h; exact ih (hs.step hst) h
    | fault r => rw [hst] at h; cases h
    | refused r => rw [hst] at h; cases h

/-- One step further: the polls and the reset input move up by one. -/
theorem NoReset.next {n : Nat} {s t : State} (h : NoReset (n + 1) s) (ht : ∀ k, t.drawAt k = s.drawAt (k + 1)) :
    NoReset n t := fun k hk => by rw [ht]; exact h (k + 1) (by omega)

/-! ### The polls of a pass -/

theorem lastTrip_eq_some_iff (trip : Nat → Bool) (n k : Nat) :
    lastTrip trip n = some k ↔ k < n ∧ trip k = true ∧ ∀ j, k < j → j < n → trip j = false := by
  induction n with
  | zero => simp [lastTrip]
  | succ n ih =>
    unfold lastTrip
    cases hn : trip n with
    | true =>
      simp only [if_true, Option.some.injEq]
      constructor
      · rintro rfl
        exact ⟨by omega, hn, fun j h1 h2 => by omega⟩
      · rintro ⟨h1, h2, h3⟩
        by_contra hne
        have := h3 n (by omega) (by omega)
        simp [hn] at this
    | false =>
      simp only [Bool.false_eq_true, if_false, ih]
      constructor
      · rintro ⟨h1, h2, h3⟩
        refine ⟨by omega, h2, fun j hj hj' => ?_⟩
        rcases Nat.lt_succ_iff_lt_or_eq.mp hj' with hlt | rfl
        · exact h3 j hj hlt
        · exact hn
      · rintro ⟨h1, h2, h3⟩
        have hk : k ≠ n := by rintro rfl; simp [hn] at h2
        exact ⟨by omega, h2, fun j hj hj' => h3 j hj (by omega)⟩

theorem lastTrip_eq_none_iff (trip : Nat → Bool) (n : Nat) :
    lastTrip trip n = none ↔ ∀ k, k < n → trip k = false := by
  induction n with
  | zero => simp [lastTrip]
  | succ n ih =>
    unfold lastTrip
    cases hn : trip n with
    | true => simpa using ⟨n, by omega, hn⟩
    | false =>
      simp only [Bool.false_eq_true, if_false, ih]
      constructor
      · intro h k hk
        rcases Nat.lt_succ_iff_lt_or_eq.mp hk with hlt | rfl
        · exact h k hlt
        · exact hn
      · exact fun h k hk => h k (by omega)

/-! ### Traces -/

@[simp] theorem reports_append (xs ys : List Event) : reports (xs ++ ys) = reports xs + reports ys := by
  induction xs with
  | nil => simp [reports]
  | cons e xs ih => cases e <;> simp [reports, ih, Nat.add_right_comm]

/-- A whole cycle's two events keep a trace one of whole cycles. -/
theorem wholeCycles_append_cycle {es : List Event} {c : DeviceClass} {r : Report} (h : wholeCycles es = true)
    (hr : r.cls = c) : wholeCycles (es ++ [.tag c, .report r]) = true := by
  induction es using wholeCycles.induct with
  | case1 => simp [wholeCycles, hr]
  | case2 c' r' es ih => simp [wholeCycles] at h ⊢; exact ⟨h.1, ih h.2⟩
  | case3 es h1 h2 => rw [wholeCycles.eq_def] at h; split at h <;> simp_all

end Sys2Proof.Machine
end

