-- ==== Sys2Proof/Machine/Sink.lean ====
section
/-! DEFINITION. The report sink's text (43_sequencer.md R133), an interface description: the Reporting Encoder is
outside the core (00_scope.md R4 b). No step of the core uses it. -/

namespace Sys2Proof.Machine

/-- The legend's 15 characters (R133). -/
def keyLegend : List Char := ['0', '1', '2', '3', '4', '5', '6', '7', '8', '9', '*', '#', 'S', 'P', 'R']

/-- `KEYMAP` (Table R7, open): the character of each of the 16 positions, and the place of each in the fixed order
keys are listed in. Element `r`, then element `c`. -/
structure KeyMap where
  legend : PerRow (PerCol Char)
  rank : PerRow (PerCol Nat)
  deriving DecidableEq, Repr

/-- The elements of every position, row by row. -/
def flatten {α : Type} (a : PerRow (PerCol α)) : List α := a.toList.flatMap Vector.toList

/-- What the spec says of `KEYMAP`: the characters are the legend's, each is used, (row 0, column 2) is `7`, and the
listing order is an order. -/
def KeyMap.wellFormed (m : KeyMap) : Bool :=
  (flatten m.legend).all (fun ch => keyLegend.contains ch) &&
  keyLegend.all (fun ch => (flatten m.legend).contains ch) &&
  (m.legend.get 0).get 2 == '7' && decide (flatten m.rank).Nodup

/-- Insert a ranked character in rank order. -/
def insertRanked (k : Nat × Char) : List (Nat × Char) → List (Nat × Char)
  | [] => [k]
  | x :: xs => if k.1 ≤ x.1 then k :: x :: xs else x :: insertRanked k xs

/-- The pressed positions of one row: a 0 bit is a pressed key (R71). -/
def pressedInRow (mask : Mask) (legend : PerCol Char) (rank : PerCol Nat) : List (Nat × Char) :=
  (List.finRange fixedParams.nCols).filterMap fun c =>
    if mask.getLsbD c.val then none else some (rank.get c, legend.get c)

/-- The characters of the pressed keys, in the map's order. -/
def keyChars (m : KeyMap) (r : Report) : List Char :=
  ((pressedInRow r.row0 (m.legend.get 0) (m.rank.get 0) ++ pressedInRow r.row1 (m.legend.get 1) (m.rank.get 1) ++
    pressedInRow r.row2 (m.legend.get 2) (m.rank.get 2) ++ pressedInRow r.row3 (m.legend.get 3) (m.rank.get 3)).foldr
      insertRanked []).map Prod.snd

/-- A decimal digit. -/
def digit (n : Nat) : Char := Char.ofNat (48 + n % 10)

/-- Three decimal digits with leading zeros. -/
def threeDigits (n : Nat) : List Char := [digit (n / 100), digit (n / 10), digit n]

/-- The digit after `Top:` or `Bot:`: 1 = pressed = line low. -/
def pressedDigit (level : Bool) : Char := if level then '0' else '1'

/-- The text of one event: the bracketed tag, or the report line ended by line feed and carriage return
(90_conflicts.md C6). -/
def sinkText (m : KeyMap) : Event → List Char
  | .tag .joystick => ['[', 'J', 'o', 'y', 's', 't', 'i', 'c', 'k', ']']
  | .tag .trackBall => ['[', 'T', 'r', 'a', 'c', 'k', 'B', 'a', 'l', 'l', ']']
  | .report r =>
    ['P', 'o', 't', 'X', ':'] ++ threeDigits r.x.toNat ++ [' ', 'P', 'o', 't', 'Y', ':'] ++ threeDigits r.y.toNat ++
    [' ', 'T', 'o', 'p', ':', pressedDigit r.topl, ' ', 'B', 'o', 't', ':', pressedDigit r.botl,
     ' ', 'K', 'e', 'y', 's', ':'] ++ keyChars m r ++ ['\n', '\r']

end Sys2Proof.Machine
end

