-- ==== Sys2Proof/Tests/Slice0.lean ====
section
/-! SUPPORT. Tests. Expected results are the spec's own (95_test_vectors.md, by vector name), and for every statement
with hypotheses a state and operands that meet them. -/

namespace Sys2Proof.Tests

open Sys2Proof.Machine

/-! ### Helpers -/

/-- The next state of an outcome, if it is one. -/
def next? : Host.Outcome State Fault Refusal → Option State
  | .next t => some t
  | .fault _ => none
  | .refused _ => none

/-- The refusal of an outcome, if it is one. -/
def refusal? : Host.Outcome State Fault Refusal → Option Refusal
  | .next _ => none
  | .fault _ => none
  | .refused r => some r

/-- Input draws with nothing tripped, no key and no button pressed. -/
def quiet : Inputs := ⟨false, #v[false, false], 0xF, true, true⟩

/-- The reset state at address `u` with these draws for its next step. -/
def at' (u : Upc) (i : Inputs) : State := { State.reset with upc := u, inputs := [i] }

/-! ### WellFormed refuses an ill-formed term for each check -/

theorem smoke_word_opcode : Microword.valid 0xD0 = false := by decide
theorem smoke_word_zField : Microword.valid 0x04 = false := by decide
theorem smoke_word_rField : Microword.valid 0x71 = false := by decide
theorem smoke_params_tickCycles : OpenParams.wellFormed { tickCycles := 0, dwellCycles := 128 } = false := by decide
theorem smoke_params_dwellCycles : OpenParams.wellFormed { dwellCycles := 0 } = false := by decide
theorem smoke_params_cycleTime : OpenParams.wellFormed { cycleTimeNs := 0, settleCycles := 16000 } = false := by decide
theorem smoke_params_settleCycles : OpenParams.wellFormed { settleCycles := 0 } = false := by decide
theorem smoke_params_opCycles : OpenParams.wellFormed { opCycles := 0 } = false := by decide
theorem smoke_params_classifyCycles : OpenParams.wellFormed { classifyCycles := 0 } = false := by decide
theorem smoke_params_reportCycles : OpenParams.wellFormed { reportCycles := 0 } = false := by decide
theorem smoke_params_dwell_not_two_ticks : OpenParams.calibrated { dwellCycles := 127 } = false := by decide
theorem smoke_params_settle_not_16ms : OpenParams.calibrated { settleCycles := 15999 } = false := by decide
theorem smoke_program_too_long : Program.wellFormed (List.replicate 47 .dwell) = false := by decide
theorem smoke_program_tbrun_without_tbrst : Program.wellFormed [.tbrst, .tbrun, .tbrun] = false := by decide
theorem smoke_program_two_rows : Program.wellFormed [.rowrel 3, .rowdrv 0, .rowrel 2, .rowdrv 1] = false := by decide
/-- Row 0 driven again after a ROWREL of another row. -/
theorem smoke_program_wrong_row_released : Program.wellFormed
    [.rowrel 3, .rowdrv 0, .dwell, .colsmp 0, .rowrel 1, .rowdrv 0, .dwell, .colsmp 0, .rowrel 0] = false := by decide
/-- REPORT restarts the program before the words after it run: row 1 is still driven when ROWREL 0; ROWDRV 0 comes. -/
theorem smoke_program_report_in_the_middle : Program.wellFormed [.rowrel 0, .rowdrv 0, .dwell, .colsmp 0, .rowrel 0,
    .rowdrv 1, .report, .rowrel 1, .rowdrv 0] = false := by decide
/-- The same with REPORT last and the words before it in the right order. -/
theorem smoke_program_report_last_accepted : Program.wellFormed [.rowrel 1, .rowdrv 0, .dwell, .colsmp 0, .rowrel 0,
    .rowdrv 1, .report] = true := by decide
/-- A word no run reaches must keep the order too. -/
theorem smoke_program_unreached_drive : Program.wellFormed [.report, .rowdrv 0] = false := by decide
/-- The driven row is released, but not directly before the next ROWDRV. -/
theorem smoke_program_release_not_directly_before : Program.releaseBeforeDrive none none
    [.rowrel 3, .rowdrv 0, .rowrel 0, .dwell, .rowdrv 1] = false := by decide
/-- Each release directly before the next drive: accepted. -/
theorem smoke_release_before_drive_accepted : Program.releaseBeforeDrive none none
    [.rowrel 3, .rowdrv 0, .rowrel 0, .rowdrv 1, .rowrel 1, .rowdrv 1] = true := by decide
theorem smoke_program_no_dwell : Program.wellFormed [.rowrel 3, .rowdrv 3, .colsmp 3] = false := by decide
theorem smoke_program_no_settle : Program.wellFormed [.cavrel, .caprel, .capdis] = false := by decide
theorem smoke_program_no_discharge : Program.wellFormed [.caprel, .caprel, .capdis] = false := by decide
/-- A 16 MHz clock: CYCLE_TIME 125/2 ns. The default SETTLE_CYCLES is then 256000, which is 16 ms. -/
def clock16MHz : OpenParams := { cycleTimeNs := ⟨125, 2, by decide, by decide⟩ }
theorem smoke_fraction_accepted : clock16MHz.wellFormed = true ∧ clock16MHz.calibrated = true ∧
    clock16MHz.settleCycles = 256000 := by decide
theorem smoke_defaults_accepted : defaultParams.wellFormed = true ∧ defaultParams.calibrated = true := by decide
theorem smoke_cycle_accepted : Program.wellFormed cycleOps = true := by decide

/-! ### Decoding: every constructor's word, bit by bit from Tables R60 and R61 -/

theorem test_decode_scanner : decode 0b0000_00_10 = .instr (.rowrel 2) ∧ decode 0b0001_00_01 = .instr (.rowdrv 1) ∧
    decode 0b0010_00_00 = .instr .dwell ∧ decode 0b0011_00_11 = .instr (.colsmp 3) := by decide
theorem test_decode_controlLine : decode 0b0100_00_00 = .instr .cavrel ∧ decode 0b0101_00_00 = .instr .cavasr ∧
    decode 0b0110_00_00 = .instr .settle := by decide
theorem test_decode_digitizer : decode 0b0111_00_00 = .instr .caprel ∧ decode 0b1000_00_00 = .instr .tbrst ∧
    decode 0b1001_00_00 = .instr .tbrun ∧ decode 0b1010_00_00 = .instr .capdis := by decide
theorem test_decode_classify_report : decode 0b1011_00_00 = .instr .classify ∧
    decode 0b1100_00_00 = .instr .report := by decide
theorem test_decode_reserved : decode 0xFF = .reserved .zField ∧ decode 0x21 = .reserved .rField ∧
    decode 0xE0 = .reserved .opcode := by decide
theorem test_decodeTableWord : decodeTableWord 8 0x33 = some (.colsmp 3) ∧ decodeTableWord 8 0xC3 = none := by decide

/-! ### One step of each operation -/

/-- Vector M2. -/
theorem test_rowrel_releases : (next? (step { at' 29 quiet with rowl := #v[.rel, .rel, .rel, .low] })).map
    (fun t => (t.upc, t.rowl)) = some (30, #v[.rel, .rel, .rel, .rel]) := by decide
/-- Vector M3. -/
theorem test_rowdrv_drives : (next? (step (at' 1 quiet))).map
    (fun t => (t.upc, t.rowl)) = some (2, #v[.low, .rel, .rel, .rel]) := by decide
/-- Vector M9. -/
theorem test_rowdrv_contention : refusal? (step { at' 1 quiet with rom := [0x10, 0x11], rowl := #v[.low, .rel, .rel, .rel] })
    = some .rowContention := by decide
/-- Vector M4. -/
theorem test_dwell_passes_time : (next? (step { at' 2 quiet with cyc := 2 })).map
    (fun t => (t.upc, t.cyc)) = some (3, 130) := by decide
/-- Vector M5. -/
theorem test_colsmp_stores : (next? (step (at' 3 { quiet with col := 0b1011 }))).map
    (fun t => (t.upc, t.row)) = some (4, #v[0xB, 0xF, 0xF, 0xF]) := by decide
/-- Vector M7. -/
theorem test_colsmp_stores_release : (next? (step { at' 11 { quiet with col := 0b1111 } with row := #v[0, 0, 0, 0] })).map
    (fun t => t.row) = some #v[0, 0, 0xF, 0] := by decide
/-- Vector S1. -/
theorem test_cavrel : (next? (step { at' 16 quiet with cav := .high })).map (fun t => (t.upc, t.cav)) =
    some (17, .rel) := by decide
/-- Vector S3. -/
theorem test_cavasr : (next? (step (at' 23 quiet))).map (fun t => (t.upc, t.cav)) = some (24, .high) := by decide
/-- Vector S4. -/
theorem test_settle : (next? (step { at' 17 quiet with cyc := 525 })).map (fun t => (t.upc, t.cyc)) =
    some (18, 16525) := by decide
/-- Vector X1. -/
theorem test_caprel : (next? (step (at' 18 quiet))).map (fun t => (t.upc, t.cap)) =
    some (19, #v[.rel, .rel]) := by decide
/-- Vector X2. -/
theorem test_capdis : (next? (step { at' 21 quiet with cap := #v[.rel, .rel], axis := #v[99, 0] })).map
    (fun t => (t.upc, t.cap, t.axis)) = some (22, #v[.low, .low], #v[99, 0]) := by decide
/-- Vector T1. -/
theorem test_tbrst : (next? (step { at' 19 quiet with tick := 228, axis := #v[9, 0] })).map
    (fun t => (t.upc, t.tick, t.axis, t.cyc)) = some (20, 0, #v[9, 0], 1) := by decide
/-- Vector T3b, with the trips told apart: the X poll alone captures X alone (vector T3). -/
theorem test_tbrun_captures_x : (next? (step { at' 20 { quiet with cmpTrip := #v[true, false] } with
    tick := 57, axis := #v[9, 9] })).map (fun t => (t.upc, t.tick, t.axis, t.cyc)) =
      some (20, 58, #v[57, 9], 64) := by decide
/-- Vectors T4 and T5: the last tick falls through. -/
theorem test_tbrun_last_tick : (next? (step { at' 20 { quiet with cmpTrip := #v[false, true] } with tick := 227, axis := #v[9, 0] })).map
    (fun t => (t.upc, t.tick, t.axis)) = some (21, 228, #v[9, 227]) := by decide
/-- Vector T7. -/
theorem test_tbrun_refused : refusal? (step { at' 20 quiet with tick := 228 }) = some .tbrunWithoutTbrst := by decide
/-- Vector S8: the least Joystick pair. -/
theorem test_classify_least_joystick : (next? (step { at' 22 quiet with axis := #v[221, 221] })).map
    (fun t => (t.upc, t.cls, t.out)) = some (23, .joystick, [.tag .joystick]) := by decide
/-- Vector S9: one axis is not enough. -/
theorem test_classify_one_axis : (next? (step { at' 22 quiet with axis := #v[227, 220], cls := .joystick })).map
    (fun t => (t.cls, t.out)) = some (.trackBall, [.tag .trackBall]) := by decide
/-- Vector S14. -/
theorem test_report : (next? (step { at' 45 { quiet with topN := false } with
    axis := #v[113, 7], row := #v[0xB, 0xF, 0xF, 5] })).map (fun t => (t.upc, t.topl, t.botl, t.out)) =
      some (0, false, true, [.report ⟨.trackBall, 113, 7, 0xB, 0xF, 0xF, 5, false, true⟩]) := by decide
/-- Vector Z1. -/
theorem test_reset : (next? (step { at' 20 { quiet with rst := true } with
    tick := 100, axis := #v[55, 0], cap := #v[.rel, .low], rowl := #v[.rel, .rel, .rel, .low], cav := .high, cyc := 7 })) =
      some { State.reset with stepNo := 1 } := by decide
/-- Vector Z2. -/
theorem test_first_step : next? (step State.reset) = some { State.reset with upc := 1, cyc := 1, stepNo := 1 } := by
  decide
/-- Program P7. -/
theorem test_refused_words : [0x04, 0xD0, 0x71].map (fun w => refusal? (step { State.reset with rom := [w] })) =
    [some .reservedMicroword, some .reservedMicroword, some .reservedMicroword] := by decide
/-- R67: no wrap and no word beyond the ROM. -/
theorem test_upc_out_of_rom : refusal? (step (at' 46 quiet)) = some .upcOutOfRom ∧
    refusal? (step (at' 63 quiet)) = some .upcOutOfRom := by decide

/-! ### Tables -/

/-- R181: the clock at the start of every word, with the defaults. -/
theorem test_start_cycles : (List.range 46).map (startCycles defaultParams) =
    [0, 1, 2, 130, 131, 132, 133, 261, 262, 263, 264, 392, 393, 394, 395, 523] ++
    [524, 525, 16525, 16526, 16527, 31119, 31120, 31121, 31122, 47122, 47123, 47124, 61716] ++
    [61717, 61718, 61719, 61847, 61848, 61849, 61850, 61978, 61979, 61980, 61981, 62109, 62110, 62111, 62112,
     62240, 62241] := by decide
/-- R66: the ROM is the macro CYCLE. -/
theorem test_rom_is_cycle : cycleOps.map encode = microprogram := by decide
/-- R12: the phases at their boundaries. -/
theorem test_phase_boundaries : [0, 15, 16, 21, 22, 23, 28, 29, 44, 45, 46].map phaseAt =
    [some .scanPre, some .scanPre, some .measureReleased, some .measureReleased, some .classify,
     some .measureAsserted, some .measureAsserted, some .scanPost, some .scanPost, some .report, none] := by decide
/-- R74: a listing line. -/
theorem test_listing : listingLine 3 (.colsmp 0) = "3: COLSMP 0" ∧ parse "TBRUN" none = some .tbrun ∧
    parse "ROWDRV" (some 4) = none := by decide

/-- A `KEYMAP` that meets what the spec says of it; every other of its values is arbitrary. -/
def someKeyMap : KeyMap where
  legend := #v[#v['0', '1', '7', '3'], #v['4', '5', '6', '2'], #v['8', '9', '*', '#'], #v['S', 'P', 'R', 'R']]
  rank := #v[#v[0, 1, 2, 3], #v[4, 5, 6, 7], #v[8, 9, 10, 11], #v[12, 13, 14, 15]]
theorem test_someKeyMap : someKeyMap.wellFormed = true := by decide
/-- Example E4: the document's report line, with the sink's terminator. -/
theorem test_sink_idle : sinkText someKeyMap (.report ⟨.joystick, 200, 200, 0xF, 0xF, 0xF, 0xF, true, true⟩) =
    "PotX:200 PotY:200 Top:0 Bot:0 Keys:\n\r".toList := by decide
/-- Example E5: the key at (0, 2) alone. -/
theorem test_sink_key : sinkText someKeyMap (.report ⟨.trackBall, 113, 7, 0xB, 0xF, 0xF, 0xF, false, true⟩) =
    "PotX:113 PotY:007 Top:1 Bot:0 Keys:7\n\r".toList := by decide
/-- R115: no key gives all ones; the key at (0, 2) with row 0 driven gives 0xB. -/
theorem test_matrix : matrixCol #v[.low, .rel, .rel, .rel]
      #v[#v[false, false, false, false], #v[false, false, false, false], #v[false, false, false, false],
       #v[false, false, false, false]] = 0xF ∧
    matrixCol #v[.low, .rel, .rel, .rel]
      #v[#v[false, false, true, false], #v[true, false, false, false], #v[false, false, false, false],
       #v[false, false, false, false]] = 0xB := by decide
/-- What a comparator presents before, at and after the crossing, for each sense. -/
theorem test_comparator : [CmpSense.levelBeforeCrossing, .levelAfterCrossing, .edge].map
      (fun c => (comparatorOutput c false false, comparatorOutput c false true, comparatorOutput c true true)) =
    [(true, false, false), (false, true, true), (false, true, false)] := by decide
/-- R25, R69: the record and the phase during REPORT, and the row pads with no row and with row 3 driven. -/
theorem test_ports_report : ((at' 45 { quiet with botN := false }).ports.rpt).map (fun r => (r.topl, r.botl)) =
    some (true, false) ∧ (at' 45 quiet).ports.phase = some 5 ∧ (at' 14 quiet).ports.rowOE = 0 ∧
    ({ at' 14 quiet with rowl := #v[.rel, .rel, .rel, .low] } : State).ports.rowOE = 8 := by decide
/-- R25, R70: the strobe, the class and the phase during CLASSIFY, and no strobe under reset. -/
theorem test_ports : (at' 22 quiet).ports.tagStb = true ∧ (at' 22 quiet).ports.tagClass = some 0 ∧
    (at' 22 quiet).ports.phase = some 2 ∧ (at' 22 quiet).ports.rptStb = false ∧
    (at' 22 { quiet with rst := true }).ports.tagStb = false := by decide

/-! ### Witnesses: what the hypotheses of the statements are met by -/

/-- A state with no scheduled draw sees no reset. -/
theorem noReset_of_unscheduled {s : State} (h : s.inputs = []) (n : Nat) : NoReset n s := fun k _ => by
  simp [State.drawAt, h]

theorem witness_DecodeEncodeInverse : Instr.wellFormed (.colsmp 3) = true ∧ decode 0xC0 = .instr .report := by decide
theorem witness_AssembledProgramIsFetched :
    cycleOps.length ≤ romWords ∧ State.reset.rom = cycleOps.map encode ∧ (at' 45 quiet).upc.toNat < cycleOps.length ∧
    cycleOps.length ≤ (at' 46 quiet).upc.toNat := by decide
theorem witness_ResetOverridesEverything : (at' 45 { quiet with rst := true }).draw.rst = true := by decide
theorem witness_StepRuns_next : (at' 45 quiet).draw.rst = false ∧ (at' 45 quiet).upc.toNat ≤ 45 ∧
    (at' 45 quiet).rom[(at' 45 quiet).upc.toNat]? = some 0xC0 ∧ decode 0xC0 = .instr .report ∧
    (next? (exec .report (at' 45 quiet))).isSome = true := by decide
theorem witness_StepRuns_refused : ({ at' 20 quiet with tick := 228 } : State).rom[20]? = some 0x90 ∧
    decode 0x90 = .instr .tbrun ∧
    refusal? (exec .tbrun { at' 20 quiet with tick := 228 }) = some .tbrunWithoutTbrst := by decide
theorem witness_StepRuns_draws : (at' 0 quiet).inputs = [quiet] ∧ State.reset.inputs = [] := by decide
theorem witness_FetchRefuses : (at' 46 quiet).draw.rst = false ∧ 46 ≤ (at' 46 quiet).upc.toNat ∧
    ({ State.reset with rom := [] } : State).rom[0]? = none ∧
    ({ State.reset with rom := [0xFF] } : State).rom[0]? = some 0xFF ∧ decode 0xFF = .reserved .zField := by decide
/-- PlacedWordRunsNext: a word kept beside the placed one, and addresses filled below it. -/
theorem witness_PlacedWordRunsNext_rom : 44 < (at' 45 quiet).rom.length ∧ 44 ≠ (at' 45 quiet).placeAddress.toNat ∧
    ({ at' 45 quiet with rom := [] } : State).rom.length ≤ 44 ∧
    44 < ({ at' 45 quiet with rom := [] } : State).placeAddress.toNat ∧ 46 ≤ (at' 46 quiet).upc.toNat := by decide
theorem witness_PlacedWordRunsNext : decode (BitVec.ofNat 8 0xC0) = .instr .report ∧
    (next? (exec .report (State.reset.withFetchWord 8 0xC0))).isSome = true ∧
    (at' 45 quiet).inputs = [quiet] := by decide
theorem witness_Tbrun : ({ State.reset with tick := 227 } : State).tick.toNat < fixedParams.nTicks ∧
    fixedParams.nTicks ≤ ({ State.reset with tick := 228 } : State).tick.toNat := by decide
theorem witness_CaptureLatch : (at' 20 { quiet with cmpTrip := #v[true, false] }).draw.cmpTrip.get xAxis = true ∧
    (at' 20 quiet).draw.cmpTrip.get xAxis = false ∧ (at' 20 { quiet with cmpTrip := #v[false, true] }).draw.cmpTrip.get yAxis = true ∧
    (at' 20 quiet).draw.cmpTrip.get yAxis = false ∧ (next? (exec .capdis State.reset)).isSome = true := by decide

/-- At the TBRUN of the released pass, with a last trip at tick 227 on X and none on Y. -/
def passState : State :=
  { State.reset with upc := 20, cap := #v[.rel, .rel],
                     inputs := List.replicate 227 quiet ++ [{ quiet with cmpTrip := #v[true, false] }] }

theorem passState_drawAt {k : Nat} (h : k < 227) : passState.drawAt k = quiet := by
  simp [-List.reduceReplicate, State.drawAt, passState, List.getElem?_append, h]

theorem passState_drawAt_last : passState.drawAt 227 = { quiet with cmpTrip := #v[true, false] } := by decide

theorem witness_Pass : passState.upc.toNat ≤ 45 ∧ passState.rom[passState.upc.toNat]? = some 0x90 ∧
    passState.tick = 0 ∧ NoReset 228 passState ∧
    ((passState.drawAt 227).cmpTrip.get xAxis = true ∧ ∀ j, 227 < j → j < 228 → (passState.drawAt j).cmpTrip.get xAxis = false) ∧
    (∀ k, k < 228 → (passState.drawAt k).cmpTrip.get yAxis = false) := by
  refine ⟨by decide, by decide, rfl, fun k hk => ?_, ⟨by rw [passState_drawAt_last]; rfl, fun j _ _ => by omega⟩,
    fun k hk => ?_⟩ <;>
  · rcases Nat.lt_or_ge k 227 with h | h
    · rw [passState_drawAt h]; rfl
    · obtain rfl : k = 227 := by omega
      rw [passState_drawAt_last]; rfl

/-- The same place with a last trip at tick 227 on Y and none on X. -/
def passStateY : State :=
  { passState with inputs := List.replicate 227 quiet ++ [{ quiet with cmpTrip := #v[false, true] }] }

theorem passStateY_drawAt {k : Nat} (h : k < 227) : passStateY.drawAt k = quiet := by
  simp [-List.reduceReplicate, State.drawAt, passStateY, List.getElem?_append, h]

theorem passStateY_drawAt_last : passStateY.drawAt 227 = { quiet with cmpTrip := #v[false, true] } := by decide

theorem witness_Pass_y : passStateY.upc.toNat ≤ 45 ∧ passStateY.rom[passStateY.upc.toNat]? = some 0x90 ∧
    passStateY.tick = 0 ∧ NoReset 228 passStateY ∧
    ((passStateY.drawAt 227).cmpTrip.get yAxis = true ∧
      ∀ j, 227 < j → j < 228 → (passStateY.drawAt j).cmpTrip.get yAxis = false) ∧
    (∀ k, k < 228 → (passStateY.drawAt k).cmpTrip.get xAxis = false) := by
  refine ⟨by decide, by decide, rfl, fun k hk => ?_, ⟨by rw [passStateY_drawAt_last]; rfl, fun j _ _ => by omega⟩,
    fun k hk => ?_⟩ <;>
  · rcases Nat.lt_or_ge k 227 with h | h
    · rw [passStateY_drawAt h]; rfl
    · obtain rfl : k = 227 := by omega
      rw [passStateY_drawAt_last]; rfl

theorem witness_Capdis : (next? (exec .settle State.reset)).isSome = true ∧ (∀ a, State.reset.cap.get a = .low) ∧
    ((next? (exec .capdis State.reset)).bind fun t => next? (exec .capdis t)).isSome = true := by decide
/-- At the CAPREL of the released pass, no draw scheduled. -/
def digitizeState : State := { State.reset with upc := 18 }
theorem witness_DigitizerRunEffect : holdsAt digitizeState.rom digitizeState.upc.toNat digitizeOps ∧
    NoReset 231 digitizeState :=
  ⟨⟨by decide, fun k hk => by
      have h4 : k < 4 := hk
      interval_cases k <;> decide⟩, noReset_of_unscheduled rfl 231⟩
theorem witness_Rowdrv : (∀ q : RowIdx, q ≠ 2 → State.reset.rowl.get q = .rel) ∧ (1 : RowIdx) ≠ 2 ∧
    (#v[.rel, .low, .rel, .rel] : PerRow PullLine).get 1 = .low := by decide
theorem witness_Rowrel : (#v[.low, .rel, .rel, .rel] : PerRow PullLine).get 0 = .low ∧
    State.reset.rowl.get 3 = .rel := by decide
theorem witness_RowArrayAccess : (next? (exec .tbrun State.reset)).isSome = true ∧
    (∀ r : RowIdx, Instr.tbrun ≠ .colsmp r) := by decide

/-- All keys up, and draws that show it at every step of a scan. -/
def scanState : State := { State.reset with inputs := List.replicate 16 quiet }

theorem witness_ScanEffect : holdsAt scanState.rom scanState.upc.toNat scanOps ∧
    (∀ r : RowIdx, r ≠ 3 → scanState.rowl.get r = .rel) ∧ NoReset 16 scanState :=
  ⟨⟨by decide, fun k hk => by
      have h16 : k < 16 := hk
      interval_cases k <;> decide⟩, by decide, fun k hk => by interval_cases k <;> decide⟩

/-- The columns a state's next step reads, and what the matrix would give, where that step is a COLSMP. -/
def matrixHolds (key : Keys) (o : Host.Outcome State Fault Refusal) : Bool :=
  match o with
  | .next u => match u.fetch with
    | .ok (.colsmp _) => u.draw.col == matrixCol u.rowl key
    | _ => true
  | _ => true

theorem witness_ScanShowsTheKeys (k : Nat) (u : State) (r : RowIdx) (hk : k < 16) (h : run k scanState = .next u)
    (hf : u.fetch = .ok (.colsmp r)) :
    u.draw.col = matrixCol u.rowl #v[#v[false, false, false, false], #v[false, false, false, false],
      #v[false, false, false, false], #v[false, false, false, false]] := by
  have hm : matrixHolds #v[#v[false, false, false, false], #v[false, false, false, false],
      #v[false, false, false, false], #v[false, false, false, false]] (run k scanState) = true := by
    clear h; interval_cases k <;> decide
  simpa [matrixHolds, h, hf] using hm

theorem witness_Cavasr : (next? (exec .caprel { State.reset with cav := .high })).isSome = true := by decide
theorem witness_ClassificationComparison :
    ∀ a : AxisIdx, (({ State.reset with axis := #v[227, 221] } : State).axis.get a).toNat ≤ 227 := by decide
theorem witness_Report_clause : (next? (exec .report (at' 45 quiet))).map (fun t => t.upc) = some 0 ∧
    (0 : Upc) ≠ 45 ∧ (0 : Upc) ≠ 45 + 1 := by decide
theorem witness_Simultaneous : (at' 20 ⟨false, #v[true, true], 0, false, false⟩).draw.cmpTrip.get xAxis = true ∧
    (at' 20 ⟨false, #v[true, true], 0, false, false⟩).draw.cmpTrip.get yAxis = true ∧
    (at' 20 ⟨false, #v[true, true], 0, false, false⟩).draw.topN = false ∧
    (at' 20 ⟨false, #v[true, true], 0, false, false⟩).draw.botN = false := by decide
theorem witness_ThreeControlTransfers : (next? (exec .dwell State.reset)).isSome = true ∧
    (next? (exec .tbrun { State.reset with tick := 227 })).isSome = true ∧
    (next? (exec .report State.reset)).isSome = true ∧
    (at' 20 quiet).upc = (at' 20 { quiet with cmpTrip := #v[true, false] }).upc ∧
    (next? (exec .tbrun (at' 20 quiet))).isSome = true ∧
    (next? (exec .tbrun (at' 20 { quiet with cmpTrip := #v[true, false] }))).isSome = true := by decide
/-- WritesAreTheTables: for each element an operation that does change it. -/
theorem witness_WritesAreTheTables :
    (next? (exec (.rowdrv 1) State.reset)).map (fun t => decide (t.rowl.get 1 ≠ State.reset.rowl.get 1)) = some true ∧
    (next? (exec (.colsmp 2) (at' 0 { quiet with col := 0 }))).map
      (fun t => decide (t.row.get 2 ≠ State.reset.row.get 2)) = some true ∧
    (next? (exec .cavasr State.reset)).map (fun t => decide (t.cav ≠ State.reset.cav)) = some true ∧
    (next? (exec .caprel State.reset)).map (fun t => decide (∀ a, t.cap.get a ≠ State.reset.cap.get a)) = some true ∧
    (next? (exec .tbrun State.reset)).map (fun t => decide (t.tick ≠ State.reset.tick)) = some true ∧
    (next? (exec .tbrun { at' 20 { quiet with cmpTrip := #v[true, true] } with tick := 9 })).map
      (fun t => decide (∀ a, t.axis.get a ≠ State.reset.axis.get a)) = some true ∧
    (next? (exec .classify { State.reset with axis := #v[227, 227] })).map
      (fun t => decide (t.cls ≠ State.reset.cls ∧ t.out ≠ State.reset.out)) = some true ∧
    (next? (exec .report (at' 0 { quiet with topN := false, botN := false }))).map
      (fun t => decide (t.topl ≠ State.reset.topl ∧ t.botl ≠ State.reset.botl)) = some true := by decide
theorem witness_PortsReadOnlyWhereNamed :
    (at' 0 quiet).withoutInputs = (at' 0 { quiet with cmpTrip := #v[true, false] }).withoutInputs ∧
    (at' 0 quiet).draw.col = (at' 0 { quiet with cmpTrip := #v[true, false] }).draw.col ∧
    (at' 0 quiet).draw.cmpTrip.get xAxis = (at' 0 { quiet with col := 0 }).draw.cmpTrip.get xAxis ∧
    (at' 0 quiet).draw.cmpTrip.get yAxis = (at' 0 { quiet with col := 0 }).draw.cmpTrip.get yAxis ∧
    (at' 0 quiet).draw.topN = (at' 0 { quiet with col := 0 }).draw.topN ∧
    (at' 0 quiet).draw.botN = (at' 0 { quiet with col := 0 }).draw.botN := by decide
theorem witness_Durations : (next? (exec .settle State.reset)).isSome = true := by decide
theorem witness_RepeatedLatchWrite : (∀ a, State.reset.cap.get a = .low) ∧
    (∀ a, ({ State.reset with cap := #v[.rel, .rel], cav := .high } : State).cap.get a = .rel) ∧
    State.reset.cav = .rel ∧ ({ State.reset with cap := #v[.rel, .rel], cav := .high } : State).cav = .high ∧
    State.reset.rowl.get 0 = .rel := by decide
/-- The ROWDRV clause: row 3 driven and no other. -/
theorem witness_RepeatedLatchWrite_rowdrv :
    ({ State.reset with rowl := #v[.rel, .rel, .rel, .low] } : State).rowl.get 3 = .low ∧
    ∀ q : RowIdx, q ≠ 3 → ({ State.reset with rowl := #v[.rel, .rel, .rel, .low] } : State).rowl.get q = .rel := by decide
theorem witness_StrobesShowTheEvents_report : (at' 45 quiet).draw.rst = false ∧
    (at' 45 quiet).fetch = .ok .report ∧ (next? (step (at' 45 quiet))).isSome = true ∧
    (at' 45 { quiet with rst := true }).draw.rst = true := by decide
theorem witness_StrobesShowTheEvents_classify : (at' 22 quiet).draw.rst = false ∧
    (at' 22 quiet).fetch = .ok .classify ∧ (next? (step (at' 22 quiet))).isSome = true := by decide
theorem witness_StrobesShowTheEvents_other : (at' 0 quiet).draw.rst = false ∧
    (at' 0 quiet).fetch = .ok (.rowrel 3) ∧ (next? (step (at' 0 quiet))).isSome = true := by decide
theorem witness_OnePadChangePerStep :
    (next? (step (at' 23 quiet))).map (fun t => decide (t.cav ≠ State.reset.cav)) = some true ∧
    (next? (step (at' 18 quiet))).map (fun t => decide (∀ a, t.cap.get a ≠ State.reset.cap.get a)) = some true ∧
    (next? (step (at' 1 quiet))).map (fun t => decide (t.rowl.get 0 ≠ State.reset.rowl.get 0)) = some true := by decide

/-- The reset state meets the location invariant. -/
theorem reset_inv : State.reset.Inv where
  rom := rfl
  upc := by decide
  tickInPass := by decide
  tickOutside := by decide
  axis := by decide
  cap := by decide
  rowl := by decide
  cav := by decide
  traceBeforeTag := by decide
  traceAfterTag := fun h => absurd h (by decide)

/-- A state inside the released pass of a later cycle meets it too. -/
def laterPass : State :=
  { State.reset with upc := 20, tick := 227, axis := #v[227, 0], cap := #v[.rel, .rel], rowl := #v[.rel, .rel, .rel, .low],
                     out := [.tag .trackBall, .report ⟨.trackBall, 0, 0, 0xF, 0xF, 0xF, 0xF, true, true⟩] }
theorem laterPass_inv : laterPass.Inv where
  rom := rfl
  upc := by decide
  tickInPass := by decide
  tickOutside := fun h => absurd rfl h
  axis := by decide
  cap := by decide
  rowl := by decide
  cav := by decide
  traceBeforeTag := by decide
  traceAfterTag := fun h => absurd h (by decide)

/-- After each CAPDIS of the first cycle: the two places the discharge times are counted from. -/
def dischargedAt (u : Upc) (cav : CtlLine) (out : List Event) : State :=
  { State.reset with upc := u, tick := 228, rowl := #v[.rel, .rel, .rel, .low], cav := cav, out := out }
theorem discharged22_inv : (dischargedAt 22 .rel []).Inv where
  rom := rfl
  upc := by decide
  tickInPass := by decide
  tickOutside := by decide
  axis := by decide
  cap := by decide
  rowl := by decide
  cav := by decide
  traceBeforeTag := by decide
  traceAfterTag := fun h => absurd h (by decide)
theorem discharged29_inv : (dischargedAt 29 .high [.tag .trackBall]).Inv where
  rom := rfl
  upc := by decide
  tickInPass := by decide
  tickOutside := by decide
  axis := by decide
  cap := by decide
  rowl := by decide
  cav := by decide
  traceBeforeTag := fun h => absurd h (by decide)
  traceAfterTag := fun _ => ⟨[], by decide, by decide⟩
theorem witness_Discharge : (dischargedAt 22 .rel []).Inv ∧ (dischargedAt 22 .rel []).upc = 22 ∧
    NoReset 3 (dischargedAt 22 .rel []) ∧ (dischargedAt 29 .high [.tag .trackBall]).Inv ∧
    (dischargedAt 29 .high [.tag .trackBall]).upc = 29 ∧ NoReset 35 (dischargedAt 29 .high [.tag .trackBall]) :=
  ⟨discharged22_inv, rfl, noReset_of_unscheduled rfl 3, discharged29_inv, rfl, noReset_of_unscheduled rfl 35⟩

theorem witness_StepKeepsRanges : State.reset.Ranges ∧ (next? (step State.reset)).isSome = true :=
  ⟨⟨by decide, by decide, by decide, by decide, by decide⟩, by decide⟩
theorem witness_StepKeepsTheClockSchedule : State.reset.Inv ∧ State.reset.OnSchedule ∧
    (next? (step State.reset)).isSome = true :=
  ⟨reset_inv, by unfold State.OnSchedule; decide, by decide⟩
theorem witness_TimingIndependentOfData :
    NoReset 2 ({ State.reset with upc := 20 } : State) ∧
    NoReset 2 ({ State.reset with upc := 20, axis := #v[9, 0], stepNo := 5 } : State) ∧
    (next? (run 2 { State.reset with upc := 20 })).isSome = true ∧
    (next? (run 2 { State.reset with upc := 20, axis := #v[9, 0], stepNo := 5 })).isSome = true :=
  ⟨noReset_of_unscheduled rfl 2, noReset_of_unscheduled rfl 2, by decide, by decide⟩
theorem witness_Reachable : Reachable (bootState { opCycles := 2 } [quiet] 0) := .boot _ _ _
/-- Row 3's clause: a reachable state at address 14. -/
theorem witness_Reachable_row3 : ∃ t, Reachable t ∧ t.upc.toNat = 14 := by
  have h : (next? (run 14 State.reset)).map (fun t => t.upc.toNat) = some 14 := by decide
  cases hr : run 14 State.reset with
  | next t => exact ⟨t, Reachable.run (.boot defaultParams [] 0) hr, by simpa [hr, next?] using h⟩
  | fault r => rw [hr] at h; cases h
  | refused r => rw [hr] at h; cases h
theorem witness_ReleaseBeforeDrive_refused : (∀ x : RowIdx, Instr.rowdrv x ∉ [.dwell, .colsmp 0, .rowrel 1]) ∧
    [Instr.dwell, .colsmp 0, .rowrel 1].getLast? ≠ some (.rowrel 0) ∧
    (∀ x : RowIdx, Instr.rowdrv x ∉ [Instr.rowrel 3, .dwell]) ∧
    (∀ x : RowIdx, [Instr.rowrel 3, .dwell].getLast? ≠ some (.rowrel x)) := by decide
theorem witness_ReleaseBeforeDriveExcludesContention : Program.releaseBeforeDrive none none cycleOps = true ∧
    (∀ r : RowIdx, State.reset.rowl.get r = .rel) := by decide
theorem witness_WellFormedProgramsNeverStop : Program.wellFormed cycleOps = true ∧
    State.reset.rom = cycleOps.map encode ∧ State.reset.upc = 0 ∧ (∀ r : RowIdx, State.reset.rowl.get r = .rel) ∧
    .report ∈ cycleOps ∧ Program.wellFormed [.dwell] = true ∧
    refusal? (run 1 { State.reset with rom := [] }) = some .upcOutOfRom := by decide
theorem witness_PhasesRunInOrder : laterPass.Inv ∧ laterPass.draw.rst = false ∧
    (next? (step laterPass)).isSome = true := ⟨laterPass_inv, rfl, by decide⟩
theorem witness_OneCycleEffect : State.reset.Inv ∧ State.reset.upc = 0 ∧ NoReset 500 State.reset :=
  ⟨reset_inv, rfl, noReset_of_unscheduled rfl 500⟩

end Sys2Proof.Tests
end

section
/-! The parameters of Tables R6 and R7 (00_scope.md): the values the record fields compute to, and what the check
`OpenParams.calibrated` (92_eei_decisions.md D6, D7) says as an equation of rational durations. -/

namespace Sys2Proof

/-! ### Table R6: the fixed parameters Laws/State.lean does not list -/

@[simp] theorem fixedParams_dwellTicks : fixedParams.dwellTicks = 2 := rfl
@[simp] theorem fixedParams_settleTimeNs : fixedParams.settleTimeNs = 16000000 := rfl
@[simp] theorem fixedParams_vRefMillivolt : fixedParams.vRefMillivolt = 2290 := rfl
@[simp] theorem fixedParams_vRefRailMillivolt : fixedParams.vRefRailMillivolt = 5000 := rfl

/-- `TICK_MAX` is defined from `N_TICKS`, so an audit that changes one changes the other. -/
theorem fixedParams_tickMax_eq_pred_nTicks : fixedParams.tickMax = fixedParams.nTicks - 1 := rfl

/-! ### Table R7: the open parameters -/

/-- `defaultParams` with its two computed fields, `DWELL_CYCLES` and `SETTLE_CYCLES`, evaluated. -/
theorem defaultParams_eq : defaultParams =
    { tickCycles := 64, dwellCycles := 128, cycleTimeNs := 1000, settleCycles := 16000,
      opCycles := 1, classifyCycles := 1, reportCycles := 1 } := by decide

/-- A rational equation about `CYCLE_TIME` is the integer equation about its numerator and denominator that the model
computes with. -/
theorem natCast_mul_eq_natCast_iff (n t : Nat) (q : Rat) :
    (n : Rat) * q = t ↔ (n : Int) * q.num = t * q.den := by
  have hden : (q.den : Rat) ≠ 0 := by exact_mod_cast q.den_ne_zero
  calc (n : Rat) * q = t
      ↔ (n : Rat) * q.num / q.den = t := by rw [mul_div_assoc, Rat.num_div_den]
    _ ↔ (n : Rat) * q.num = t * q.den := div_eq_iff hden
    _ ↔ (n : Int) * q.num = t * q.den := by exact_mod_cast Iff.rfl

/-- The check of D6 and D7 is the two relations themselves, the second in nanoseconds. -/
theorem OpenParams.calibrated_iff (c : OpenParams) : c.calibrated = true ↔
    c.dwellCycles = fixedParams.dwellTicks * c.tickCycles ∧
      (c.settleCycles : Rat) * c.cycleTimeNs = fixedParams.settleTimeNs := by
  rw [natCast_mul_eq_natCast_iff, OpenParams.calibrated, Bool.and_eq_true, beq_iff_eq, decide_eq_true_iff]

theorem defaultParams_calibrated : defaultParams.calibrated = true := by decide

end Sys2Proof

namespace Sys2Proof.Machine

@[simp] theorem State.reset_cfg : State.reset.cfg = defaultParams := rfl

/-- Settles O6: the values are those of the fields, and the relations of D6 and D7 are what the check says of the
default parameters. -/
theorem parameterValues : Obligations.ParameterValues := by
  unfold Obligations.ParameterValues
  obtain ⟨hdwell, hsettle⟩ := defaultParams.calibrated_iff.mp defaultParams_calibrated
  rw [State.reset_cfg]
  exact ⟨fixedParams_nTicks, fixedParams_tickMax, fixedParams_tickMax_eq_pred_nTicks,
    fixedParams_nAxes, fixedParams_sampleBits, fixedParams_nRows, fixedParams_nCols,
    fixedParams_classThreshold, fixedParams_dwellTicks, fixedParams_settleTimeNs,
    fixedParams_vRefMillivolt, fixedParams_vRefRailMillivolt,
    defaultParams_eq, hdwell, hsettle⟩

end Sys2Proof.Machine
end

section
/-! What one operation does to the state, as a function: `State.after` is the next state, `State.Accepts` the guard of
the two operations that have one, and the element functions (`rowlAfter`, …) say it of the line latches one at a time.
`exec_eq_next_iff` ties both to `exec`; the frame of every operation (10_state.md Table R22) is read off here. -/

namespace Sys2Proof.Machine

/-! ### The next state of an operation -/

/-- The state an operation leads to where it is not refused. -/
def State.after (s : State) : Instr → State
  | .rowrel r => (s.setRowl r .rel).fallThrough s.cfg.opCycles
  | .rowdrv r => (s.setRowl r .low).fallThrough s.cfg.opCycles
  | .dwell => s.fallThrough s.cfg.dwellCycles
  | .colsmp r => (s.setRow r s.draw.col).fallThrough s.cfg.opCycles
  | .cavrel => (s.setCav .rel).fallThrough s.cfg.opCycles
  | .cavasr => (s.setCav .high).fallThrough s.cfg.opCycles
  | .settle => s.fallThrough s.cfg.settleCycles
  | .caprel => (s.setCaps .rel).fallThrough s.cfg.opCycles
  | .tbrst => (s.setTick 0).fallThrough s.cfg.opCycles
  | .tbrun => s.runTick s.draw.cmpTrip
  | .capdis => (s.setCaps .low).fallThrough s.cfg.opCycles
  | .classify => ((s.setCls (classOf s.axis)).emit (.tag (classOf s.axis))).fallThrough s.cfg.classifyCycles
  | .report => ((s.setButtons s.draw.topN s.draw.botN).emit
      (.report (s.reportOf s.draw.topN s.draw.botN))).restart s.cfg.reportCycles

/-- The guards of R106 and R81 (f): the state gives the operation a meaning. -/
def State.Accepts (s : State) : Instr → Prop
  | .rowdrv r => ∀ q : RowIdx, q ≠ r → s.rowl.get q ≠ .low
  | .tbrun => s.tick.toNat < 228
  | _ => True

/-- An operation answers a next state exactly where its guard holds, and then it is `State.after`. -/
theorem exec_eq_next_iff (i : Instr) (s t : State) : exec i s = .next t ↔ s.Accepts i ∧ t = s.after i := by
  cases i with
  | rowdrv r => exact execRowdrv_eq_next_iff r s t
  | tbrun => exact execTbrun_eq_next_iff s t
  | _ => exact ⟨fun h => by cases h; exact ⟨trivial, rfl⟩, fun h => by rw [h.2]; rfl⟩

theorem State.after_eq_of_exec {i : Instr} {s t : State} (h : exec i s = .next t) : t = s.after i :=
  ((exec_eq_next_iff i s t).mp h).2

/-! ### The line latches after an operation -/

/-- `ROWL` after an operation. -/
def rowlAfter : Instr → PerRow PullLine → PerRow PullLine
  | .rowrel r, l => setAt l r .rel
  | .rowdrv r, l => setAt l r .low
  | _, l => l

/-- Each capacitor latch after an operation. -/
def capAfter : Instr → PullLine → PullLine
  | .caprel, _ => .rel
  | .capdis, _ => .low
  | _, l => l

/-- `CAV` after an operation. -/
def cavAfter : Instr → CtlLine → CtlLine
  | .cavrel, _ => .rel
  | .cavasr, _ => .high
  | _, l => l

@[simp] theorem State.after_rowl (s : State) (i : Instr) : (s.after i).rowl = rowlAfter i s.rowl := by
  cases i <;> rfl

@[simp] theorem State.after_cav (s : State) (i : Instr) : (s.after i).cav = cavAfter i s.cav := by
  cases i <;> rfl

@[simp] theorem State.after_cap_get (s : State) (i : Instr) (a : AxisIdx) :
    (s.after i).cap.get a = capAfter i (s.cap.get a) := by
  cases i with
  | caprel => exact s.setCaps_cap_get .rel a
  | capdis => exact s.setCaps_cap_get .low a
  | _ => rfl

/-! ### What no operation touches -/

@[simp] theorem State.after_rom (s : State) (i : Instr) : (s.after i).rom = s.rom := by cases i <;> rfl
@[simp] theorem State.after_cfg (s : State) (i : Instr) : (s.after i).cfg = s.cfg := by cases i <;> rfl
@[simp] theorem State.after_inputs (s : State) (i : Instr) : (s.after i).inputs = s.inputs := by cases i <;> rfl
@[simp] theorem State.after_stepNo (s : State) (i : Instr) : (s.after i).stepNo = s.stepNo := by cases i <;> rfl

/-! ### The elements with one or two writers: which operations leave them alone -/

theorem State.after_upc {i : Instr} (s : State) (hb : i ≠ .tbrun) (hr : i ≠ .report) :
    (s.after i).upc = s.upc + 1 := by
  cases i with
  | tbrun => exact absurd rfl hb
  | report => exact absurd rfl hr
  | _ => rfl

theorem State.after_tick {i : Instr} (s : State) (hs : i ≠ .tbrst) (hb : i ≠ .tbrun) :
    (s.after i).tick = s.tick := by
  cases i with
  | tbrst => exact absurd rfl hs
  | tbrun => exact absurd rfl hb
  | _ => rfl

theorem State.after_axis {i : Instr} (s : State) (hb : i ≠ .tbrun) : (s.after i).axis = s.axis := by
  cases i with
  | tbrun => exact absurd rfl hb
  | _ => rfl

theorem State.after_cls {i : Instr} (s : State) (hc : i ≠ .classify) : (s.after i).cls = s.cls := by
  cases i with
  | classify => exact absurd rfl hc
  | _ => rfl

theorem State.after_out {i : Instr} (s : State) (hc : i ≠ .classify) (hr : i ≠ .report) :
    (s.after i).out = s.out := by
  cases i with
  | classify => exact absurd rfl hc
  | report => exact absurd rfl hr
  | _ => rfl

theorem State.after_buttons {i : Instr} (s : State) (hr : i ≠ .report) :
    (s.after i).topl = s.topl ∧ (s.after i).botl = s.botl := by
  cases i with
  | report => exact absurd rfl hr
  | _ => exact ⟨rfl, rfl⟩

/-! ### TBRUN: the captures and the count -/

/-- R92: a capture register after a tick is one of the two values, the tick only where its poll tripped. -/
theorem State.after_tbrun_axis_get (s : State) (a : AxisIdx) :
    (s.after .tbrun).axis.get a = captured (s.draw.cmpTrip.get a) s.tick (s.axis.get a) :=
  s.runTick_axis_get s.draw.cmpTrip a

/-- R81: after the last tick `UPC` is on the next word, after any other still on the TBRUN. -/
theorem State.after_tbrun_upc (s : State) :
    (s.after .tbrun).upc = if s.tick.toNat + 1 = 228 then s.upc + 1 else s.upc := rfl

/-- R84: the count of a tick that has a meaning does not overflow. -/
theorem State.after_tbrun_tick_toNat {s : State} (h : s.tick.toNat < 228) :
    (s.after .tbrun).tick.toNat = s.tick.toNat + 1 := tick_succ_toNat h

/-! ### Which operation a change names (Table R22) -/

theorem writes_of_rowlAfter_ne {i : Instr} {l : PerRow PullLine} {r : RowIdx}
    (h : (rowlAfter i l).get r ≠ l.get r) : i = .rowrel r ∨ i = .rowdrv r := by
  cases i with
  | rowrel q => exact .inl (congrArg _ (by_contra fun hq => h (get_setAt_other l _ (Ne.symm hq))))
  | rowdrv q => exact .inr (congrArg _ (by_contra fun hq => h (get_setAt_other l _ (Ne.symm hq))))
  | _ => exact absurd rfl h

theorem writes_of_cavAfter_ne {i : Instr} {l : CtlLine} (h : cavAfter i l ≠ l) : i = .cavrel ∨ i = .cavasr := by
  cases i with
  | cavrel => exact .inl rfl
  | cavasr => exact .inr rfl
  | _ => exact absurd rfl h

theorem writes_of_capAfter_ne {i : Instr} {l : PullLine} (h : capAfter i l ≠ l) : i = .caprel ∨ i = .capdis := by
  cases i with
  | caprel => exact .inl rfl
  | capdis => exact .inr rfl
  | _ => exact absurd rfl h

theorem State.writes_of_after_row_ne {s : State} {i : Instr} {r : RowIdx}
    (h : (s.after i).row.get r ≠ s.row.get r) : i = .colsmp r := by
  cases i with
  | colsmp q => exact congrArg _ (by_contra fun hq => h (get_setAt_other s.row _ (Ne.symm hq)))
  | _ => exact absurd rfl h

/-- A sample changes only under TBRUN, and only where its poll tripped (R92). -/
theorem State.writes_of_after_axis_ne {s : State} {i : Instr} {a : AxisIdx}
    (h : (s.after i).axis.get a ≠ s.axis.get a) : i = .tbrun ∧ s.draw.cmpTrip.get a = true := by
  have hi : i = .tbrun := by_contra fun hb => h (by rw [s.after_axis hb])
  subst hi
  rw [s.after_tbrun_axis_get] at h
  cases ht : s.draw.cmpTrip.get a with
  | true => exact ⟨rfl, rfl⟩
  | false => exact absurd (by rw [ht, captured_false]) h

/-- Settles O37: each clause is the frame lemma of its element, read from the change back to the writer. -/
theorem writesAreTheTables : Obligations.WritesAreTheTables := by
  unfold Obligations.WritesAreTheTables
  intro i s t h
  obtain rfl := State.after_eq_of_exec h
  refine ⟨fun r hr => ?_, fun r hr => State.writes_of_after_row_ne hr, fun hc => ?_, fun a ha => ?_, fun ht => ?_,
    fun a ha => State.writes_of_after_axis_ne ha, fun hc => ?_, fun hb => ?_, fun ho => ?_,
    s.after_rom i, s.after_cfg i, s.after_inputs i, s.after_stepNo i⟩
  · exact writes_of_rowlAfter_ne (s.after_rowl i ▸ hr)
  · exact writes_of_cavAfter_ne (s.after_cav i ▸ hc)
  · exact writes_of_capAfter_ne (s.after_cap_get i a ▸ ha)
  · exact or_iff_not_imp_left.mpr fun hs => by_contra fun hb => ht (s.after_tick hs hb)
  · exact by_contra fun hi => hc (s.after_cls hi)
  · exact by_contra fun hr => hb.elim (· (s.after_buttons hr).1) (· (s.after_buttons hr).2)
  · exact or_iff_not_imp_left.mpr fun hc => by_contra fun hr => ho (s.after_out hc hr)

/-! ### The reads of the input ports (Table R22, R24) -/

/-- Two states that hold the same but for the draws: the second is the first with other draws. -/
theorem State.exists_draws_of_withoutInputs_eq {s s' : State} (h : s.withoutInputs = s'.withoutInputs) :
    ∃ ds n, s' = { s with inputs := ds, stepNo := n } := by
  refine ⟨s'.inputs, s'.stepNo, ?_⟩
  cases s
  cases s'
  simp_all [State.withoutInputs]

/-- Settles O38: with the draws replaced, an operation that reads no port computes the same by definition; for the
three readers the port they read is the only draw in the result. -/
theorem portsReadOnlyWhereNamed : Obligations.PortsReadOnlyWhereNamed := by
  unfold Obligations.PortsReadOnlyWhereNamed
  intro i s s' hs hcol htrip hbuttons
  obtain ⟨ds, n, rfl⟩ := State.exists_draws_of_withoutInputs_eq hs
  cases i with
  | rowdrv r => simp only [exec, execRowdrv]; split <;> rfl
  | colsmp r => simp only [exec, execColsmp, hcol r rfl]; rfl
  | tbrun => simp only [exec, execTbrun, htrip rfl]; split <;> rfl
  | report => simp only [exec, execReport, (hbuttons rfl).1, (hbuttons rfl).2]; rfl
  | _ => rfl

end Sys2Proof.Machine
end

section
/-! The location invariant of the fixed microprogram (10_state.md R33, 43_sequencer.md R120, R134): which operation
stands at which address, what it makes of the lines, `TICK` and the trace there, and the step lemma. -/

namespace Sys2Proof.Machine

/-! ### The microprogram as a table of operations -/

/-- R74: reading back the word of an operation gives the operation. -/
theorem decode_encode (i : Instr) : decode (encode i) = .instr i := by
  cases i with
  | rowrel r => revert r; decide
  | rowdrv r => revert r; decide
  | colsmp r => revert r; decide
  | _ => rfl

/-- R75: the ROM is CYCLE, word by word. -/
theorem microprogram_eq_map_encode : microprogram = cycleOps.map encode := by decide

theorem cycleOps_length : cycleOps.length = 46 := by decide

/-- At every address of the microprogram the fetch answers the operation CYCLE has there. -/
theorem State.fetch_of_microprogram {s : State} (hrom : s.rom = microprogram) (hu : s.upc.toNat ≤ 45) :
    ∃ i, cycleOps[s.upc.toNat]? = some i ∧ s.fetch = .ok i := by
  have hlt : s.upc.toNat < cycleOps.length := by rw [cycleOps_length]; omega
  have hi := List.getElem?_eq_getElem hlt
  refine ⟨_, hi, (s.fetch_eq_ok_iff _).mpr ⟨by omega, _, ?_, decode_encode _⟩⟩
  rw [hrom, microprogram_eq_map_encode, List.getElem?_map, hi, Option.map_some]

theorem cycleOps_eq_tbrst_iff : ∀ u < 46, (cycleOps[u]? = some .tbrst ↔ u = 19 ∨ u = 26) := by decide
theorem cycleOps_eq_tbrun_iff : ∀ u < 46, (cycleOps[u]? = some .tbrun ↔ u = 20 ∨ u = 27) := by decide
theorem cycleOps_eq_classify_iff : ∀ u < 46, (cycleOps[u]? = some .classify ↔ u = 22) := by decide
theorem cycleOps_eq_report_iff : ∀ u < 46, (cycleOps[u]? = some .report ↔ u = 45) := by decide

/-- R172: no row is driven where a ROWDRV stands. -/
theorem drivenRow_eq_none_of_rowdrv :
    ∀ u < 46, ∀ (first : Bool) (r : RowIdx), cycleOps[u]? = some (.rowdrv r) → drivenRow first u = none := by
  decide

/-- Tables R99 and R111 and rule R163 are what the operations make of each other's lines, address by address. -/
theorem lines_follow_cycleOps : ∀ u < 45, ∀ first : Bool, ∀ i ∈ cycleOps[u]?,
    rowlAfter i (rowLatches (drivenRow first u)) = rowLatches (drivenRow first (u + 1)) ∧
    capAfter i (capsAt u) = capsAt (u + 1) ∧ cavAfter i (cavAt first u) = cavAt first (u + 1) := by decide

/-- At the restart the lines stand as they must at address 0 of a later cycle. -/
theorem lines_follow_restart (first : Bool) :
    rowLatches (drivenRow first 45) = rowLatches (drivenRow false 0) ∧
    capsAt 45 = capsAt 0 ∧ cavAt first 45 = cavAt false 0 := by
  revert first; decide

theorem rowLatches_get_eq_low_iff (d : Option RowIdx) (r : RowIdx) : (rowLatches d).get r = .low ↔ d = some r := by
  simp [rowLatches]

/-! ### The three parts of the invariant that speak of an address -/

/-- Where the line latches stand (R99, R111, R163). -/
structure State.LinesAt (s : State) (first : Bool) (u : Nat) : Prop where
  cap : ∀ a : AxisIdx, s.cap.get a = capsAt u
  rowl : s.rowl = rowLatches (drivenRow first u)
  cav : s.cav = cavAt first u

/-- What `TICK` holds (R85). -/
structure State.TickAt (s : State) (first : Bool) (u : Nat) : Prop where
  inPass : u = 20 ∨ u = 27 → s.tick.toNat < 228
  outside : u ≠ 20 → u ≠ 27 → s.tick.toNat = if first = true ∧ u ≤ 19 then 0 else 228

/-- What the trace is (R27, R130). -/
structure State.TraceAt (s : State) (u : Nat) : Prop where
  beforeTag : u ≤ 22 → wholeCycles s.out = true
  afterTag : 22 < u → ∃ es, s.out = es ++ [.tag s.cls] ∧ wholeCycles es = true

/-- The invariant is its three local parts, the ROM and two ranges. -/
theorem State.inv_iff (s : State) : s.Inv ↔
    s.rom = microprogram ∧ s.upc.toNat ≤ 45 ∧ (∀ a : AxisIdx, (s.axis.get a).toNat ≤ 227) ∧
    s.LinesAt s.firstCycle s.upc.toNat ∧ s.TickAt s.firstCycle s.upc.toNat ∧ s.TraceAt s.upc.toNat :=
  ⟨fun h => ⟨h.rom, h.upc, h.axis, ⟨h.cap, h.rowl, h.cav⟩, ⟨h.tickInPass, h.tickOutside⟩,
      ⟨h.traceBeforeTag, h.traceAfterTag⟩⟩,
    fun ⟨hrom, hupc, haxis, hl, ht, hw⟩ => ⟨hrom, hupc, ht.inPass, ht.outside, haxis, hl.cap, hl.rowl, hl.cav,
      hw.beforeTag, hw.afterTag⟩⟩

section
variable {s : State} {first : Bool} {u : Nat} {i : Instr}

/-! On to the next address. -/

theorem State.LinesAt.next (h : s.LinesAt first u) (hu : u < 45) (hi : cycleOps[u]? = some i) :
    (s.after i).LinesAt first (u + 1) := by
  obtain ⟨hrowl, hcap, hcav⟩ := lines_follow_cycleOps u hu first i hi
  exact ⟨fun a => by rw [s.after_cap_get, h.cap, hcap], by rw [s.after_rowl, h.rowl, hrowl],
    by rw [s.after_cav, h.cav, hcav]⟩

theorem State.TickAt.next (h : s.TickAt first u) (hu : u < 45) (hi : cycleOps[u]? = some i)
    (hlast : i = .tbrun → s.tick.toNat = 227) : (s.after i).TickAt first (u + 1) := by
  have hs := cycleOps_eq_tbrst_iff u (by omega)
  have hb := cycleOps_eq_tbrun_iff u (by omega)
  simp only [hi, Option.some.injEq] at hs hb
  by_cases his : i = .tbrst
  · subst his
    have htick : (s.after .tbrst).tick.toNat = 0 := rfl
    exact ⟨fun _ => by omega, fun h1 h2 => by have := hs.mp rfl; omega⟩
  by_cases hib : i = .tbrun
  · subst hib
    have htick := State.after_tbrun_tick_toNat (by rw [hlast rfl]; decide : s.tick.toNat < 228)
    have h227 := hlast rfl
    have hpass := hb.mp rfl
    exact ⟨fun _ => by omega, fun _ _ => by rw [if_neg (by omega)]; omega⟩
  · rw [hs] at his
    rw [hb] at hib
    have htick : (s.after i).tick = s.tick := s.after_tick (by rwa [Ne, hs]) (by rwa [Ne, hb])
    have hle : u + 1 ≤ 19 ↔ u ≤ 19 := by omega
    exact ⟨fun _ => by omega, fun _ _ => by simp only [htick, h.outside (by omega) (by omega), hle]⟩

theorem State.TraceAt.next (h : s.TraceAt u) (hu : u < 45) (hi : cycleOps[u]? = some i) :
    (s.after i).TraceAt (u + 1) := by
  have hc := cycleOps_eq_classify_iff u (by omega)
  have hr := cycleOps_eq_report_iff u (by omega)
  simp only [hi, Option.some.injEq] at hc hr
  by_cases hic : i = .classify
  · subst hic
    have h22 := hc.mp rfl
    exact ⟨fun _ => by omega, fun _ => ⟨s.out, rfl, h.beforeTag (by omega)⟩⟩
  · have hout : (s.after i).out = s.out := s.after_out hic (by rw [Ne, hr]; omega)
    rw [hc] at hic
    refine ⟨fun _ => by rw [hout]; exact h.beforeTag (by omega), fun _ => ?_⟩
    rw [hout, s.after_cls (by rwa [Ne, hc])]
    exact h.afterTag (by omega)

/-! Another tick at the same address. -/

theorem State.LinesAt.tick (h : s.LinesAt first u) : (s.after .tbrun).LinesAt first u := ⟨h.cap, h.rowl, h.cav⟩

theorem State.TickAt.tick (hu : u = 20 ∨ u = 27) (ht : s.tick.toNat < 227) :
    (s.after .tbrun).TickAt first u := by
  have htick := State.after_tbrun_tick_toNat (by omega : s.tick.toNat < 228)
  exact ⟨fun _ => by omega, fun _ _ => by omega⟩

theorem State.TraceAt.tick (h : s.TraceAt u) : (s.after .tbrun).TraceAt u := ⟨h.beforeTag, h.afterTag⟩

/-! Back to address 0. -/

theorem State.LinesAt.restart (h : s.LinesAt first 45) : (s.after .report).LinesAt false 0 := by
  obtain ⟨hrowl, hcap, hcav⟩ := lines_follow_restart first
  exact ⟨fun a => (h.cap a).trans hcap, h.rowl.trans hrowl, h.cav.trans hcav⟩

theorem State.TickAt.restart (h : s.TickAt first 45) : (s.after .report).TickAt false 0 := by
  have htick : s.tick.toNat = 228 := by simpa using h.outside (by decide) (by decide)
  exact ⟨fun h0 => by omega, fun _ _ => htick⟩

/-- R129, R130: the report closes the cycle its tag opened, with the tag's class. -/
theorem State.TraceAt.restart (h : s.TraceAt 45) : (s.after .report).TraceAt 0 := by
  obtain ⟨es, hout, hes⟩ := h.afterTag (by decide)
  refine ⟨fun _ => ?_, fun h0 => by omega⟩
  have hrep : (s.after .report).out = s.out ++ [.report (s.reportOf s.draw.topN s.draw.botN)] := rfl
  rw [hrep, hout, List.append_assoc]
  exact wholeCycles_append_cycle hes rfl

end

/-! ### Which cycle it is -/

theorem State.firstCycle_after (s : State) {i : Instr} (hr : i ≠ .report) :
    (s.after i).firstCycle = s.firstCycle := by
  by_cases hc : i = .classify
  · subst hc
    have hout : (s.after .classify).out = s.out ++ [.tag (classOf s.axis)] := rfl
    simp [State.firstCycle, hout, reports]
  · rw [State.firstCycle, s.after_out hc hr, State.firstCycle]

theorem State.firstCycle_after_report (s : State) : (s.after .report).firstCycle = false := by
  have hout : (s.after .report).out = s.out ++ [.report (s.reportOf s.draw.topN s.draw.botN)] := rfl
  simp [State.firstCycle, hout, reports]

/-! ### The sample registers, whatever the ROM is -/

/-- R33: an operation that has a meaning keeps the samples in range. -/
theorem State.axis_after_le {s : State} {i : Instr} (ha : ∀ a : AxisIdx, (s.axis.get a).toNat ≤ 227)
    (hacc : s.Accepts i) (a : AxisIdx) : ((s.after i).axis.get a).toNat ≤ 227 := by
  by_cases hb : i = .tbrun
  · subst hb
    have ht : s.tick.toNat < 228 := hacc
    rw [s.after_tbrun_axis_get]
    exact captured_le _ (by omega) (ha a)
  · rw [s.after_axis hb]
    exact ha a

/-! ### The step -/

section
variable {s : State} {i : Instr}

/-- No operation of the microprogram is refused where it stands. -/
theorem State.Inv.accepts (h : s.Inv) (hi : cycleOps[s.upc.toNat]? = some i) : s.Accepts i := by
  have hu : s.upc.toNat < 46 := by have := h.upc; omega
  cases i with
  | rowdrv r =>
    intro q _
    have hd := drivenRow_eq_none_of_rowdrv _ hu s.firstCycle r hi
    rw [h.rowl, hd, Ne, rowLatches_get_eq_low_iff]
    simp
  | tbrun => exact h.tickInPass ((cycleOps_eq_tbrun_iff _ hu).mp hi)
  | _ => trivial

/-- The control transfers of the microprogram (R121): on to the next address, another tick, or back to 0. -/
theorem State.Inv.control (h : s.Inv) (hi : cycleOps[s.upc.toNat]? = some i) :
    (s.upc.toNat < 45 ∧ i ≠ .report ∧ (i = .tbrun → s.tick.toNat = 227) ∧
      (s.after i).upc.toNat = s.upc.toNat + 1) ∨
    (i = .tbrun ∧ (s.upc.toNat = 20 ∨ s.upc.toNat = 27) ∧ s.tick.toNat < 227 ∧ (s.after i).upc = s.upc) ∨
    (i = .report ∧ s.upc.toNat = 45 ∧ (s.after i).upc.toNat = 0) := by
  have hu := h.upc
  have hb := cycleOps_eq_tbrun_iff s.upc.toNat (by omega)
  have hr := cycleOps_eq_report_iff s.upc.toNat (by omega)
  simp only [hi, Option.some.injEq] at hb hr
  by_cases hir : i = .report
  · exact .inr (.inr ⟨hir, hr.mp hir, by rw [hir]; rfl⟩)
  have hlt : s.upc.toNat < 45 := by rw [hr] at hir; omega
  by_cases hib : i = .tbrun
  · have ht := h.tickInPass (hb.mp hib)
    rw [fixedParams_nTicks] at ht
    subst hib
    by_cases hlast : s.tick.toNat = 227
    · exact .inl ⟨hlt, hir, fun _ => hlast, by
        rw [s.after_tbrun_upc, if_pos (by omega), upc_succ_toNat hu]⟩
    · exact .inr (.inl ⟨rfl, hb.mp rfl, by omega, by rw [s.after_tbrun_upc, if_neg (by omega)]⟩)
  · exact .inl ⟨hlt, hir, fun hib' => absurd hib' hib, by rw [s.after_upc hib hir, upc_succ_toNat hu]⟩

/-- The operation of the microprogram at `UPC` keeps the invariant. -/
theorem State.Inv.after (h : s.Inv) (hi : cycleOps[s.upc.toNat]? = some i) : (s.after i).Inv := by
  have haxis := State.axis_after_le h.axis (h.accepts hi)
  obtain ⟨hrom, hupc, -, hlines, htick, htrace⟩ := s.inv_iff.mp h
  refine (State.inv_iff _).mpr ⟨(s.after_rom i).trans hrom, ?_⟩
  rcases h.control hi with ⟨hlt, hr, hlast, hnext⟩ | ⟨rfl, hpass, ht, hstay⟩ | ⟨rfl, h45, h0⟩
  · rw [hnext, s.firstCycle_after hr]
    exact ⟨by omega, haxis, hlines.next hlt hi, htick.next hlt hi hlast, htrace.next hlt hi⟩
  · rw [hstay, s.firstCycle_after (by simp)]
    exact ⟨hupc, haxis, hlines.tick, .tick hpass ht, htrace.tick⟩
  · rw [h45] at hlines htick htrace
    rw [h0, s.firstCycle_after_report]
    exact ⟨by omega, haxis, hlines.restart, htick.restart, htrace.restart⟩

/-- The invariant does not speak of the draws. -/
theorem State.Inv.advanceInputs (h : s.Inv) : s.advanceInputs.Inv :=
  ⟨h.rom, h.upc, h.tickInPass, h.tickOutside, h.axis, h.cap, h.rowl, h.cav, h.traceBeforeTag, h.traceAfterTag⟩

/-- Under the invariant a step without reset is the operation CYCLE has at `UPC`. -/
theorem State.Inv.step_eq (h : s.Inv) (hr : s.draw.rst = false) :
    ∃ i, cycleOps[s.upc.toNat]? = some i ∧ step s = .next (s.after i).advanceInputs := by
  obtain ⟨i, hi, hf⟩ := s.fetch_of_microprogram h.rom h.upc
  exact ⟨i, hi, (step_eq_next_iff _ _).mpr
    (.inr ⟨hr, i, _, hf, (exec_eq_next_iff _ _ _).mpr ⟨h.accepts hi, rfl⟩, rfl⟩)⟩

end

/-! ### Reset -/

@[simp] theorem State.reset_axis_get (a : AxisIdx) : State.reset.axis.get a = 0 := by simp [State.reset]
@[simp] theorem State.reset_row_get (r : RowIdx) : State.reset.row.get r = 0xF := by simp [State.reset]
@[simp] theorem State.reset_cap_get (a : AxisIdx) : State.reset.cap.get a = .low := by simp [State.reset]
@[simp] theorem State.reset_rowl_get (r : RowIdx) : State.reset.rowl.get r = .rel := by simp [State.reset]

/-- Settles O7: the scalars are fields of the record, the arrays hold one value throughout. -/
theorem resetStateIsTable : Obligations.ResetStateIsTable := by
  unfold Obligations.ResetStateIsTable
  exact ⟨rfl, rfl, State.reset_axis_get, State.reset_row_get, rfl, rfl, rfl, State.reset_cap_get,
    State.reset_rowl_get, rfl, rfl, rfl⟩

theorem bootState_inv (cfg : OpenParams) (inputs : List Inputs) (n : Nat) : (bootState cfg inputs n).Inv where
  rom := rfl
  upc := Nat.zero_le _
  tickInPass := fun h => absurd h (show ¬(0 = 20 ∨ 0 = 27) by decide)
  tickOutside := fun _ _ => rfl
  axis := fun a => le_of_eq_of_le (congrArg BitVec.toNat (State.reset_axis_get a)) (Nat.zero_le _)
  cap := State.reset_cap_get
  rowl := by rfl
  cav := rfl
  traceBeforeTag := fun _ => rfl
  traceAfterTag := fun h => absurd h (Nat.not_lt_zero _)

/-- With the core's ROM a reset gives the reset state of the same core, its draws going on. -/
theorem State.takeReset_eq_bootState {s : State} (hrom : s.rom = microprogram) :
    s.takeReset = bootState s.cfg s.inputs.tail (s.stepNo + 1) := by
  rw [State.takeReset, hrom]
  rfl

/-- Settles O46: under reset the next state is a reset state; else the operation at `UPC` has a meaning there and
keeps the three parts of the invariant. -/
theorem stepKeepsInvariantAndNeverStops : Obligations.StepKeepsInvariantAndNeverStops := by
  unfold Obligations.StepKeepsInvariantAndNeverStops
  intro s h
  cases hr : s.draw.rst with
  | true =>
    exact ⟨_, (step_eq_next_iff _ _).mpr (.inl ⟨hr, rfl⟩),
      State.takeReset_eq_bootState h.rom ▸ bootState_inv _ _ _⟩
  | false =>
    obtain ⟨i, hi, hstep⟩ := h.step_eq hr
    exact ⟨_, hstep, (h.after hi).advanceInputs⟩

end Sys2Proof.Machine
end

section
/-! The ranges that hold whatever the ROM is (10_state.md R33), the reset state, and what every
reachable state is like (41_digitizer.md R99, 42_matrix_scanner.md R111, 43_sequencer.md R130). -/

namespace Sys2Proof.Machine

/-! ### The ranges, for any ROM -/

/-- R106: an operation that is not refused drives a second row in no case. -/
theorem rowlAfter_oneRow {s : State} {i : Instr} (hacc : s.Accepts i)
    (h : ∀ r q : RowIdx, s.rowl.get r = .low → s.rowl.get q = .low → r = q) (r q : RowIdx)
    (hr : (rowlAfter i s.rowl).get r = .low) (hq : (rowlAfter i s.rowl).get q = .low) : r = q := by
  cases i with
  | rowrel x =>
    have hold : ∀ y, (setAt s.rowl x .rel).get y = .low → s.rowl.get y = .low := fun y hy => by
      rw [get_setAt] at hy
      split at hy
      · cases hy
      · exact hy
    exact h r q (hold r hr) (hold q hq)
  | rowdrv x =>
    have honly : ∀ y, (setAt s.rowl x .low).get y = .low → y = x := fun y hy =>
      by_contra fun hne => hacc y hne (get_setAt_other s.rowl _ hne ▸ hy)
    exact (honly r hr).trans (honly q hq).symm
  | _ => exact h r q hr hq

/-- R11: from an address the ROM has, `UPC` goes at most one beyond. -/
theorem State.after_upc_le {s : State} (i : Instr) (h : s.upc.toNat ≤ 45) : (s.after i).upc.toNat ≤ 46 := by
  have hnext := upc_succ_toNat h
  by_cases hr : i = .report
  · subst hr
    exact Nat.zero_le _
  by_cases hb : i = .tbrun
  · subst hb
    rw [s.after_tbrun_upc]
    split <;> omega
  · rw [s.after_upc hb hr]
    omega

/-- R33: an operation that is not refused leaves `TICK` at most `N_TICKS`. -/
theorem State.after_tick_le {s : State} {i : Instr} (hacc : s.Accepts i) (h : s.tick.toNat ≤ 228) :
    (s.after i).tick.toNat ≤ 228 := by
  by_cases hs : i = .tbrst
  · subst hs
    exact Nat.zero_le _
  by_cases hb : i = .tbrun
  · subst hb
    have ht : s.tick.toNat < 228 := hacc
    rw [State.after_tbrun_tick_toNat ht]
    exact ht
  · rwa [s.after_tick hs hb]

theorem State.Ranges.after {s : State} {i : Instr} (h : s.Ranges) (hu : s.upc.toNat ≤ 45) (hacc : s.Accepts i) :
    (s.after i).Ranges where
  upc := State.after_upc_le i hu
  tick := State.after_tick_le hacc h.tick
  axis := State.axis_after_le h.axis hacc
  oneRow := fun r q hr hq => rowlAfter_oneRow hacc h.oneRow r q (s.after_rowl i ▸ hr) (s.after_rowl i ▸ hq)
  caps := fun a b => by rw [s.after_cap_get, s.after_cap_get, h.caps a b]

/-- The ranges do not speak of the draws. -/
theorem State.Ranges.advanceInputs {s : State} (h : s.Ranges) : s.advanceInputs.Ranges :=
  ⟨h.upc, h.tick, h.axis, h.oneRow, h.caps⟩

/-- R32: a reset gives a state in range, whatever the ROM is. -/
theorem State.takeReset_ranges (s : State) : s.takeReset.Ranges where
  upc := Nat.zero_le _
  tick := Nat.zero_le _
  axis := fun a => le_of_eq_of_le (congrArg BitVec.toNat (State.reset_axis_get a)) (Nat.zero_le _)
  oneRow := fun r _ hr => PullLine.noConfusion ((State.reset_rowl_get r).symm.trans hr)
  caps := fun a b => (State.reset_cap_get a).trans (State.reset_cap_get b).symm

/-- Settles O47: a step is a reset or an operation that was fetched, so from an address the ROM has, and accepted. -/
theorem stepKeepsRangesForAnyRom : Obligations.StepKeepsRangesForAnyRom := by
  unfold Obligations.StepKeepsRangesForAnyRom
  intro s t h hstep
  rcases (step_eq_next_iff s t).mp hstep with ⟨-, rfl⟩ | ⟨-, i, u, hf, hx, rfl⟩
  · exact s.takeReset_ranges
  · obtain ⟨hu, -⟩ := (s.fetch_eq_ok_iff i).mp hf
    obtain ⟨hacc, rfl⟩ := (exec_eq_next_iff i s u).mp hx
    exact (h.after (by omega) hacc).advanceInputs

/-! ### The invariant implies the ranges -/

theorem State.Inv.tick_le {s : State} (h : s.Inv) : s.tick.toNat ≤ 228 := by
  by_cases hp : s.upc.toNat = 20 ∨ s.upc.toNat = 27
  · exact (h.tickInPass hp).le
  · rw [h.tickOutside (by omega) (by omega), fixedParams_nTicks]
    split <;> omega

theorem State.Inv.rowl_low_iff {s : State} (h : s.Inv) (r : RowIdx) :
    s.rowl.get r = .low ↔ drivenRow s.firstCycle s.upc.toNat = some r := by
  rw [h.rowl, rowLatches_get_eq_low_iff]

theorem State.Inv.ranges {s : State} (h : s.Inv) : s.Ranges where
  upc := h.upc.trans (by decide)
  tick := h.tick_le
  axis := h.axis
  oneRow := fun r q hr hq =>
    Option.some.inj (((h.rowl_low_iff r).mp hr).symm.trans ((h.rowl_low_iff q).mp hq))
  caps := fun a b => (h.cap a).trans (h.cap b).symm

/-! ### The reset state -/

/-- R28, R181: after reset no cycle has passed. -/
theorem bootState_onSchedule (cfg : OpenParams) (inputs : List Inputs) (n : Nat) :
    (bootState cfg inputs n).OnSchedule := by
  have hstart : startCycles cfg 0 = 0 := rfl
  simp [State.OnSchedule, bootState, State.reset, reports, hstart]

/-- Settles O45: the ranges follow from the invariant. -/
theorem bootStateMeetsInvariants : Obligations.BootStateMeetsInvariants := by
  unfold Obligations.BootStateMeetsInvariants
  intro cfg inputs n
  exact ⟨bootState_inv cfg inputs n, (bootState_inv cfg inputs n).ranges, bootState_onSchedule cfg inputs n⟩

/-! ### Reachable states -/

theorem Reachable.inv {s : State} (hs : Reachable s) : s.Inv := by
  induction hs with
  | boot cfg inputs n => exact bootState_inv cfg inputs n
  | step _ h ih =>
    obtain ⟨t, ht, hinv⟩ := stepKeepsInvariantAndNeverStops _ ih
    cases h.symm.trans ht
    exact hinv

/-! R111 read back: the addresses at which each row is driven. -/

theorem drivenRow_eq_row0_iff : ∀ u < 46, ∀ first : Bool,
    (drivenRow first u = some 0 ↔ (2 ≤ u ∧ u ≤ 4) ∨ (31 ≤ u ∧ u ≤ 33)) := by decide
theorem drivenRow_eq_row1_iff : ∀ u < 46, ∀ first : Bool,
    (drivenRow first u = some 1 ↔ (6 ≤ u ∧ u ≤ 8) ∨ (35 ≤ u ∧ u ≤ 37)) := by decide
theorem drivenRow_eq_row2_iff : ∀ u < 46, ∀ first : Bool,
    (drivenRow first u = some 2 ↔ (10 ≤ u ∧ u ≤ 12) ∨ (39 ≤ u ∧ u ≤ 41)) := by decide
theorem drivenRow_eq_row3_iff : ∀ u < 46, ∀ first : Bool,
    (drivenRow first u = some 3 ↔ (14 ≤ u ∧ u ≤ 29) ∨ (43 ≤ u ∧ u ≤ 45) ∨ (u = 0 ∧ first = false)) := by
  decide

/-- R122, R123, R163 read back: the addresses at which the control line is released. -/
theorem cavAt_eq_rel_iff (first : Bool) (u : Nat) :
    cavAt first u = .rel ↔ (17 ≤ u ∧ u ≤ 23) ∨ (u ≤ 16 ∧ first = true) := by
  unfold cavAt
  split_ifs with h16 hfirst h23
  · simp [h16, hfirst]
  · refine iff_of_false (by simp) ?_
    rintro (h | ⟨-, h⟩)
    · omega
    · exact hfirst h
  · exact iff_of_true rfl (by omega)
  · exact iff_of_false (by simp) (by omega)

/-- R99 read back: the addresses at which the capacitor lines are released. -/
theorem capsAt_eq_rel_iff (u : Nat) : capsAt u = .rel ↔ (19 ≤ u ∧ u ≤ 21) ∨ (26 ≤ u ∧ u ≤ 28) := by
  unfold capsAt
  split_ifs with h
  · exact iff_of_true rfl h
  · exact iff_of_false (by simp) h

theorem State.firstCycle_eq_true_iff (s : State) : s.firstCycle = true ↔ reports s.out = 0 := by
  simp [State.firstCycle]

theorem State.firstCycle_eq_false_iff (s : State) : s.firstCycle = false ↔ reports s.out ≠ 0 := by
  simp [State.firstCycle]

/-- Settles O50: every reachable state meets the location invariant, and its tables read back are the clauses. -/
theorem reachableStatesAreSafe : Obligations.ReachableStatesAreSafe := by
  unfold Obligations.ReachableStatesAreSafe
  intro s hs
  have h := hs.inv
  obtain ⟨t, hstep, -⟩ := stepKeepsInvariantAndNeverStops s h
  have hu : s.upc.toNat < 46 := Nat.lt_succ_of_le h.upc
  have h3 := drivenRow_eq_row3_iff _ hu s.firstCycle
  rw [s.firstCycle_eq_false_iff] at h3
  refine ⟨h.upc, h.tick_le, h.axis, h.ranges.oneRow,
    (h.rowl_low_iff 0).trans (drivenRow_eq_row0_iff _ hu _), (h.rowl_low_iff 1).trans (drivenRow_eq_row1_iff _ hu _),
    (h.rowl_low_iff 2).trans (drivenRow_eq_row2_iff _ hu _), (h.rowl_low_iff 3).trans h3,
    h.ranges.caps, fun a => ?_, ?_, t, hstep⟩
  · rw [h.cap a, capsAt_eq_rel_iff]
  · rw [h.cav, cavAt_eq_rel_iff, s.firstCycle_eq_true_iff]

/-- Settles O51: up to address 22 the trace is whole cycles, beyond it one tag more. -/
theorem reachableTracesAlternate : Obligations.ReachableTracesAlternate := by
  unfold Obligations.ReachableTracesAlternate
  intro s hs
  have h := hs.inv
  exact ⟨fun h0 => h.traceBeforeTag (by omega), (le_or_gt s.upc.toNat 22).imp h.traceBeforeTag h.traceAfterTag⟩

/-! ### The phases -/

/-- The first address of a phase (R12). -/
def Phase.first : Phase → Nat
  | .scanPre => 0
  | .measureReleased => 16
  | .classify => 22
  | .measureAsserted => 23
  | .scanPost => 29
  | .report => 45

/-- The last address of a phase (R12). -/
def Phase.last : Phase → Nat
  | .scanPre => 15
  | .measureReleased => 21
  | .classify => 22
  | .measureAsserted => 28
  | .scanPost => 44
  | .report => 45

/-- The phase of an address is the one whose range it is in: each branch of `phaseAt` is one range, and the ranges of
two phases have no address in common. -/
theorem phaseAt_eq_some_iff (u : Nat) (p : Phase) : phaseAt u = some p ↔ p.first ≤ u ∧ u ≤ p.last := by
  unfold phaseAt
  split_ifs <;> cases p <;> simp [Phase.first, Phase.last] <;> omega

theorem phaseAt_eq_none_iff (u : Nat) : phaseAt u = none ↔ 46 ≤ u := by
  unfold phaseAt
  split_ifs <;> simp <;> omega

theorem Phase.succ_ne (p : Phase) : p.succ ≠ p := by cases p <;> decide

/-- R130: the phase after the last address of a phase is its successor, else the phase goes on. -/
theorem phaseAt_succ {u : Nat} {p : Phase} (h : phaseAt u = some p) (hu : u < 45) :
    phaseAt (u + 1) = some (if u = p.last then p.succ else p) := by
  rw [phaseAt_eq_some_iff] at h ⊢
  obtain ⟨hfirst, hlast⟩ := h
  split_ifs with hend
  · cases p <;> simp only [Phase.first, Phase.last, Phase.succ] at * <;> omega
  · omega

/-- The last addresses are those the statement lists. -/
theorem Phase.eq_last_iff {u : Nat} {p : Phase} (h : phaseAt u = some p) :
    u = p.last ↔ u = 15 ∨ u = 21 ∨ u = 22 ∨ u = 28 ∨ u = 44 ∨ u = 45 := by
  obtain ⟨hfirst, hlast⟩ := (phaseAt_eq_some_iff u p).mp h
  cases p <;> simp only [Phase.first, Phase.last] at * <;> omega

/-- Settles O52: going on to the next address changes the phase at its last address; another tick is inside a pass,
where no phase ends; the restart leads from the last phase to the first. -/
theorem phasesRunInOrder : Obligations.PhasesRunInOrder := by
  unfold Obligations.PhasesRunInOrder
  intro s t h hr hstep
  obtain ⟨i, hi, hnext⟩ := h.step_eq hr
  cases hstep.symm.trans hnext
  have hu := h.upc
  obtain ⟨p, hp⟩ : ∃ p, phaseAt s.upc.toNat = some p := Option.ne_none_iff_exists'.mp fun hn => by
    have := (phaseAt_eq_none_iff _).mp hn
    omega
  rcases h.control hi with ⟨hlt, -, -, hup⟩ | ⟨-, hpass, -, hstay⟩ | ⟨-, h45, h0⟩
  · refine ⟨p, if s.upc.toNat = p.last then p.succ else p, hp,
      (congrArg phaseAt hup).trans (phaseAt_succ hp hlt), ?_⟩
    rw [← Phase.eq_last_iff hp]
    split_ifs with hend
    · exact ⟨.inr rfl, iff_of_true rfl hend⟩
    · exact ⟨.inl rfl, iff_of_false p.succ_ne.symm hend⟩
  · exact ⟨p, p, hp, (congrArg (fun v => phaseAt (BitVec.toNat v)) hstay).trans hp, .inl rfl,
      iff_of_false p.succ_ne.symm (by omega)⟩
  · exact ⟨.report, .scanPre, congrArg phaseAt h45, congrArg phaseAt h0, .inr rfl, iff_of_true rfl (by omega)⟩

/-- R68: no two phases have the same code. -/
theorem Phase.code_injective : Function.Injective Phase.code := fun p q h => by
  cases p <;> cases q <;> simp_all [Phase.code]

/-- The port shows a phase's code exactly at the phase's addresses. -/
theorem State.ports_phase_eq_code_iff (s : State) (p : Phase) :
    s.ports.phase = some p.code ↔ p.first ≤ s.upc.toNat ∧ s.upc.toNat ≤ p.last := by
  rw [← phaseAt_eq_some_iff, ← (Option.map_injective Phase.code_injective).eq_iff]
  rfl

/-- A code of no phase never stands on the port. -/
theorem State.ports_phase_ne (s : State) {c : BitVec 3} (hc : ∀ p : Phase, p.code ≠ c) :
    s.ports.phase ≠ some c := fun h => by
  obtain ⟨p, -, hp⟩ := Option.map_eq_some_iff.mp h
  exact hc p hp

/-- Settles O54: the port's six codes are the phases' codes, so each shows exactly at its phase's addresses. -/
theorem phasePortShowsThePhase : Obligations.PhasePortShowsThePhase := by
  unfold Obligations.PhasePortShowsThePhase
  refine ⟨fun s => ⟨?_, ?_, ?_, ?_, ?_, ?_, ?_, ?_, ?_, rfl⟩, rfl, rfl, rfl, rfl, rfl, rfl⟩
  · exact (s.ports_phase_eq_code_iff .scanPre).trans (and_iff_right (Nat.zero_le _))
  · exact s.ports_phase_eq_code_iff .measureReleased
  · exact (s.ports_phase_eq_code_iff .classify).trans (le_antisymm_iff.trans and_comm).symm
  · exact s.ports_phase_eq_code_iff .measureAsserted
  · exact s.ports_phase_eq_code_iff .scanPost
  · exact (s.ports_phase_eq_code_iff .report).trans (le_antisymm_iff.trans and_comm).symm
  · exact s.ports_phase_ne fun p => by cases p <;> decide
  · exact s.ports_phase_ne fun p => by cases p <;> decide
  · exact Option.map_eq_none_iff.trans (phaseAt_eq_none_iff _)

end Sys2Proof.Machine
end

section
/-! The strobes and their payload ports (10_state.md R25, R27): what they show, from the operation the step executes. -/

namespace Sys2Proof.Machine

section
variable {s : State} {i : Instr}

/-- A step without reset executes the operation that was fetched. -/
theorem State.current_eq_some (hr : s.draw.rst = false) (hf : s.fetch = .ok i) : s.current = some i := by
  simp [State.current, hr, hf]

/-- A step under reset executes nothing. -/
theorem State.current_eq_none (hr : s.draw.rst = true) : s.current = none := by
  simp [State.current, hr]

/-! ### The tag strobe -/

theorem State.tagPort_of_classify (h : s.current = some .classify) : s.tagPort = some (classOf s.axis) := by
  simp [State.tagPort, h]

theorem State.tagPort_eq_none (h : s.current ≠ some .classify) : s.tagPort = none := by
  unfold State.tagPort
  split
  · contradiction
  · rfl

/-- R25: the tag strobe is 1 exactly during CLASSIFY. -/
theorem State.ports_tagStb_iff (s : State) : s.ports.tagStb = true ↔ s.current = some .classify := by
  by_cases h : s.current = some .classify
  · exact iff_of_true (congrArg Option.isSome (s.tagPort_of_classify h)) h
  · exact iff_of_false (by simp [State.ports, s.tagPort_eq_none h]) h

/-! ### The report strobe -/

theorem State.reportPort_of_report (h : s.current = some .report) :
    s.reportPort = some (s.reportOf s.draw.topN s.draw.botN) := by
  simp [State.reportPort, h]

theorem State.reportPort_eq_none (h : s.current ≠ some .report) : s.reportPort = none := by
  unfold State.reportPort
  split
  · contradiction
  · rfl

/-- R25: the report strobe is 1 exactly during REPORT. -/
theorem State.ports_rptStb_iff (s : State) : s.ports.rptStb = true ↔ s.current = some .report := by
  by_cases h : s.current = some .report
  · exact iff_of_true (congrArg Option.isSome (s.reportPort_of_report h)) h
  · exact iff_of_false (by simp [State.ports, s.reportPort_eq_none h]) h

end

/-- R70: the code is 1 exactly for Joystick. -/
theorem DeviceClass.code_eq_one_iff (c : DeviceClass) : c.code = 1 ↔ c = .joystick := by
  cases c <;> decide

/-- Settles O43: the strobes follow the operation executed, which without reset is the one fetched; the payload and
the event are both the class, or the record, of the state the step begins in. -/
theorem strobesShowTheEvents : Obligations.StrobesShowTheEvents := by
  unfold Obligations.StrobesShowTheEvents
  refine ⟨⟨rfl, rfl⟩, fun s t hr hstep => ?_, fun s hr => ?_⟩
  · rcases (step_eq_next_iff s t).mp hstep with ⟨hr', -⟩ | ⟨-, i, u, hf, hx, rfl⟩
    · rw [hr] at hr'
      cases hr'
    obtain rfl := State.after_eq_of_exec hx
    have hcur := State.current_eq_some hr hf
    have hfetch : ∀ j, s.fetch = .ok j ↔ s.current = some j := fun j => by
      rw [hf, hcur, Except.ok.injEq, Option.some.injEq]
    simp only [ne_eq, hfetch]
    refine ⟨s.ports_tagStb_iff, s.ports_rptStb_iff, fun hc => ?_, fun hc => ?_,
      fun hc => congrArg (Option.map DeviceClass.code) (s.tagPort_eq_none hc), s.reportPort_eq_none, fun hc hp => ?_⟩
    · have htag : s.ports.tagClass = some (classOf s.axis).code :=
        congrArg (Option.map DeviceClass.code) (s.tagPort_of_classify hc)
      obtain rfl : i = .classify := Option.some.inj (hcur.symm.trans hc)
      refine ⟨rfl, htag, ?_⟩
      rw [htag, Option.some.injEq, DeviceClass.code_eq_one_iff, classOf_joystick_iff_xy]
    · obtain rfl : i = .report := Option.some.inj (hcur.symm.trans hc)
      exact ⟨_, s.reportPort_of_report hc, rfl, rfl⟩
    · rw [hcur, Option.some.injEq] at hc hp
      exact s.after_out hc hp
  · have hcur := State.current_eq_none hr
    constructor
    · rw [← Bool.not_eq_true, s.ports_tagStb_iff, hcur]
      simp
    · rw [← Bool.not_eq_true, s.ports_rptStb_iff, hcur]
      simp

end Sys2Proof.Machine
end

section
/-! The indexed storage and the line latches as memory (20_memory.md R41, R48; 10_state.md R52): who writes and reads
the RowSnapshot, a latch write that is idle, and how many pads one step can change. -/

namespace Sys2Proof.Machine

/-! ### The RowSnapshot: one writer, one reader -/

theorem State.after_row {i : Instr} (s : State) (hw : ∀ r, i ≠ .colsmp r) : (s.after i).row = s.row :=
  vector_ext_get fun r => by_contra fun hr => hw r (State.writes_of_after_row_ne hr)

/-- No operation but REPORT reads the RowSnapshot: neither a guard nor what is written elsewhere depends on it. -/
theorem mapNext_withRow_exec {i : Instr} (s : State) (a : PerRow Mask) (hr : i ≠ .report) :
    mapNext (fun t => { t with row := a }) (exec i { s with row := a }) =
      mapNext (fun t => { t with row := a }) (exec i s) := by
  cases i with
  | rowdrv r => simp only [exec, execRowdrv]; split <;> rfl
  | tbrun => simp only [exec, execTbrun]; split <;> rfl
  | report => exact absurd rfl hr
  | _ => rfl

/-- Settles O26: the write and read law is that of `setAt`, the writer comes from the frame of `row`, and the four
row fields of the event are the array's elements by definition. -/
theorem rowArrayAccess : Obligations.RowArrayAccess := by
  unfold Obligations.RowArrayAccess
  refine ⟨get_setAt, State.reset_row_get, fun i s t hw hx => ?_, fun i s a => mapNext_withRow_exec s a, fun s => ?_⟩
  · rw [State.after_eq_of_exec hx, s.after_row hw]
  · exact ⟨s.after .report, s.reportOf s.draw.topN s.draw.botN, rfl, rfl, rfl, rfl, rfl, rfl⟩

/-! ### The pads one operation can change -/

/-- The row latch that changes is the one the operand names. -/
theorem rowOperand_of_rowlAfter_ne {i : Instr} {l : PerRow PullLine} {r : RowIdx}
    (h : (rowlAfter i l).get r ≠ l.get r) : rowOperand i = some r := by
  rcases writes_of_rowlAfter_ne h with rfl | rfl <;> rfl

theorem State.writes_of_after_cap_ne {s : State} {i : Instr} (h : (s.after i).cap ≠ s.cap) :
    i = .caprel ∨ i = .capdis := by
  obtain ⟨a, ha⟩ : ∃ a : AxisIdx, (s.after i).cap.get a ≠ s.cap.get a :=
    not_forall.mp fun hall => h (vector_ext_get hall)
  exact writes_of_capAfter_ne (s.after_cap_get i a ▸ ha)

/-- Settles O44: a line that changes names the operation, and each operation writes one row, both capacitor lines or
the control line. -/
theorem onePadChangePerStep : Obligations.OnePadChangePerStep := by
  unfold Obligations.OnePadChangePerStep
  intro s t hr hstep
  rcases (step_eq_next_iff s t).mp hstep with ⟨hrst, -⟩ | ⟨-, i, u, -, hx, rfl⟩
  · exact absurd (hr.symm.trans hrst) Bool.false_ne_true
  obtain rfl := State.after_eq_of_exec hx
  simp only [State.advanceInputs_rowl, State.advanceInputs_cap, State.advanceInputs_cav]
  refine ⟨fun hcav => ?_, fun hcap => ?_, fun r q hr hq => ?_⟩
  · rcases writes_of_cavAfter_ne (s.after_cav i ▸ hcav) with rfl | rfl <;> exact ⟨rfl, rfl⟩
  · rcases State.writes_of_after_cap_ne hcap with rfl | rfl <;> exact ⟨rfl, rfl, rfl⟩
  · rw [s.after_rowl] at hr hq
    exact Option.some.inj ((rowOperand_of_rowlAfter_ne hr).symm.trans (rowOperand_of_rowlAfter_ne hq))

/-! ### Writing a latch with the value it holds (R48) -/

theorem State.setRowl_eq_self {s : State} {r : RowIdx} {v : PullLine} (h : s.rowl.get r = v) : s.setRowl r v = s := by
  rw [State.setRowl, ← h, setAt_get_self]

theorem State.setCaps_eq_self {s : State} {v : PullLine} (h : ∀ a, s.cap.get a = v) : s.setCaps v = s := by
  have hcap : (s.setCaps v).cap = s.cap := vector_ext_get fun a => by rw [s.setCaps_cap_get, h]
  rw [State.setCaps_cap] at hcap
  rw [State.setCaps, hcap]

theorem State.setCav_eq_self {s : State} {v : CtlLine} (h : s.cav = v) : s.setCav v = s := by
  rw [State.setCav, ← h]

/-- An operation that only writes a latch and falls through is just the fall-through where that write is idle; `u` is
the state after the write. -/
theorem exec_eq_fallThrough_of_idle {i : Instr} {s u : State} (hacc : s.Accepts i)
    (hafter : s.after i = u.fallThrough s.cfg.opCycles) (hidle : u = s) :
    exec i s = .next (s.fallThrough s.cfg.opCycles) :=
  (exec_eq_next_iff _ _ _).mpr ⟨hacc, by rw [hafter, hidle]⟩

/-- Settles O41: each write is idle; ROWDRV is accepted because every other row is released. -/
theorem repeatedLatchWriteIsIdle : Obligations.RepeatedLatchWriteIsIdle := by
  unfold Obligations.RepeatedLatchWriteIsIdle
  refine fun s => ⟨fun hlow => ?_, fun hrel => ?_, fun hrel => ?_, fun hhigh => ?_, fun r hrel => ?_,
    fun r hlow hothers => ?_⟩
  · exact exec_eq_fallThrough_of_idle (i := .capdis) trivial rfl (State.setCaps_eq_self hlow)
  · exact exec_eq_fallThrough_of_idle (i := .caprel) trivial rfl (State.setCaps_eq_self hrel)
  · exact exec_eq_fallThrough_of_idle (i := .cavrel) trivial rfl (State.setCav_eq_self hrel)
  · exact exec_eq_fallThrough_of_idle (i := .cavasr) trivial rfl (State.setCav_eq_self hhigh)
  · exact exec_eq_fallThrough_of_idle (i := .rowrel r) trivial rfl (State.setRowl_eq_self hrel)
  · have hacc : s.Accepts (.rowdrv r) := fun q hq hq' => PullLine.noConfusion ((hothers q hq).symm.trans hq')
    exact exec_eq_fallThrough_of_idle hacc rfl (State.setRowl_eq_self hlow)

end Sys2Proof.Machine
end

section
/-! Words and operations (30_encoding.md R60 to R65, R74): the fields of a word and of an operation as numbers, and from
them that the decoder inverts the encoder and that the valid words are exactly the words of operations. -/

namespace Sys2Proof

open Sys2Proof.Machine

/-! ### The fields of a word (R60) -/

theorem Microword.op_toNat (w : Microword) : w.op.toNat = w.toNat / 16 := by
  have hw := w.isLt
  simp only [Microword.op, BitVec.extractLsb'_toNat, Nat.shiftRight_eq_div_pow]
  omega

theorem Microword.z_eq_zero_iff (w : Microword) : w.z = 0 ↔ w.toNat / 4 % 4 = 0 := by
  rw [← BitVec.toNat_inj, Microword.z, BitVec.extractLsb'_toNat, Nat.shiftRight_eq_div_pow]
  rfl

theorem Microword.r_val (w : Microword) : w.r.val = w.toNat % 4 := by
  rw [Microword.r, BitVec.val_toFin, BitVec.extractLsb'_toNat, Nat.shiftRight_zero]

/-- R65 as the model checks it and as the rule says it. -/
theorem Microword.valid_iff (w : Microword) : w.valid = true ↔
    w.toNat / 16 ≤ 12 ∧ w.toNat / 4 % 4 = 0 ∧
      (w.toNat / 16 = 0 ∨ w.toNat / 16 = 1 ∨ w.toNat / 16 = 3 ∨ w.toNat % 4 = 0) := by
  simp [Microword.valid, and_assoc, or_assoc]

/-! ### The fields of an operation (R61, R62) -/

theorem Instr.opcode_le (i : Instr) : i.opcode ≤ 12 := by
  cases i <;> simp [Instr.opcode]

theorem Instr.rField_lt (i : Instr) : i.rField < 4 := by
  cases i with
  | rowrel r => exact r.isLt
  | rowdrv r => exact r.isLt
  | colsmp r => exact r.isLt
  | _ => exact Nat.zero_lt_succ 3

/-- R63: an operation without row operand has the field 0. -/
theorem Instr.rowOp_or_rField_eq_zero (i : Instr) :
    i.opcode = 0 ∨ i.opcode = 1 ∨ i.opcode = 3 ∨ i.rField = 0 := by
  cases i with
  | rowrel r => exact .inl rfl
  | rowdrv r => exact .inr (.inl rfl)
  | colsmp r => exact .inr (.inr (.inl rfl))
  | _ => exact .inr (.inr (.inr rfl))

/-- R74: the number of an operation's word; the sum fits the word. -/
theorem encode_toNat (i : Instr) : (encode i).toNat = i.opcode * 16 + i.rField := by
  have hop := i.opcode_le
  have hr := i.rField_lt
  rw [encode, BitVec.toNat_ofNat]
  omega

/-- Table R61 is complete: every pair of fields that R65 allows belongs to an operation. Those with `R` 0 all stand in
CYCLE (R75). -/
theorem exists_instr_of_fields {op r : Nat} (hop : op ≤ 12) (hr : r < 4)
    (h : op = 0 ∨ op = 1 ∨ op = 3 ∨ r = 0) : ∃ i : Instr, i.opcode = op ∧ i.rField = r := by
  rcases h with rfl | rfl | rfl | rfl
  · exact ⟨.rowrel ⟨r, hr⟩, rfl, rfl⟩
  · exact ⟨.rowdrv ⟨r, hr⟩, rfl, rfl⟩
  · exact ⟨.colsmp ⟨r, hr⟩, rfl, rfl⟩
  · have hall : ∀ n ≤ 12, ∃ i ∈ cycleOps, i.opcode = n ∧ i.rField = 0 := by decide
    obtain ⟨i, -, hi⟩ := hall op hop
    exact ⟨i, hi⟩

/-! ### The decoder inverts the encoder -/

theorem plainOp_eq_instr_iff (w : Microword) (i j : Instr) : plainOp w j = .instr i ↔ w.r = 0 ∧ j = i := by
  unfold plainOp
  split <;> simp_all

/-- A word that decodes to an operation without operand has that operation's `R` field. -/
theorem fields_of_plainOp {w : Microword} {i j : Instr} (hj : j.rField = 0) (h : plainOp w j = .instr i) :
    i.opcode = j.opcode ∧ i.rField = w.r.val := by
  obtain ⟨hr, rfl⟩ := (plainOp_eq_instr_iff w i j).mp h
  exact ⟨rfl, by rw [hj, hr]; rfl⟩

/-- The operation Table R61 gives a code has that code, and the word's `R` field. -/
theorem fields_of_decodeOp {w : Microword} {i : Instr} :
    ∀ {n : Nat}, decodeOp w n = .instr i → i.opcode = n ∧ i.rField = w.r.val
  | 0x0, h => by cases h; exact ⟨rfl, rfl⟩
  | 0x1, h => by cases h; exact ⟨rfl, rfl⟩
  | 0x3, h => by cases h; exact ⟨rfl, rfl⟩
  | 0x2, h => fields_of_plainOp (j := .dwell) rfl h
  | 0x4, h => fields_of_plainOp (j := .cavrel) rfl h
  | 0x5, h => fields_of_plainOp (j := .cavasr) rfl h
  | 0x6, h => fields_of_plainOp (j := .settle) rfl h
  | 0x7, h => fields_of_plainOp (j := .caprel) rfl h
  | 0x8, h => fields_of_plainOp (j := .tbrst) rfl h
  | 0x9, h => fields_of_plainOp (j := .tbrun) rfl h
  | 0xA, h => fields_of_plainOp (j := .capdis) rfl h
  | 0xB, h => fields_of_plainOp (j := .classify) rfl h
  | 0xC, h => fields_of_plainOp (j := .report) rfl h
  | _ + 0xD, h => by cases h

/-- A word that decodes is the word of its operation: the three fields make up the whole word. -/
theorem encode_of_decode {w : Microword} {i : Instr} (h : decode w = .instr i) : encode i = w := by
  rw [decode] at h
  split at h
  case isFalse => cases h
  case isTrue hz =>
    obtain ⟨hop, hr⟩ := fields_of_decodeOp h
    rw [w.z_eq_zero_iff] at hz
    rw [w.op_toNat] at hop
    rw [w.r_val] at hr
    apply BitVec.eq_of_toNat_eq
    rw [encode_toNat]
    omega

theorem decode_eq_instr_iff (w : Microword) (i : Instr) : decode w = .instr i ↔ encode i = w :=
  ⟨encode_of_decode, fun h => h ▸ decode_encode i⟩

/-- Settles O3: the two directions of `decode_eq_instr_iff`. -/
theorem decodeEncodeInverse : Obligations.DecodeEncodeInverse := by
  unfold Obligations.DecodeEncodeInverse
  exact ⟨fun i _ => decode_encode i, fun _ _ => encode_of_decode⟩

/-! ### Which words are valid (R65) -/

theorem valid_encode (i : Instr) : (encode i).valid = true := by
  have hop := i.opcode_le
  have hr := i.rField_lt
  have hrow := i.rowOp_or_rField_eq_zero
  rw [Microword.valid_iff, encode_toNat]
  omega

/-- A word is decoded to an operation exactly when R65 calls it valid. -/
theorem exists_decode_eq_instr_iff (w : Microword) : (∃ i, decode w = .instr i) ↔ w.valid = true := by
  simp only [decode_eq_instr_iff]
  constructor
  · rintro ⟨i, rfl⟩
    exact valid_encode i
  · intro hv
    obtain ⟨hop, hz, hr⟩ := w.valid_iff.mp hv
    obtain ⟨i, hi, hir⟩ := exists_instr_of_fields hop (Nat.mod_lt _ (by decide)) hr
    refine ⟨i, BitVec.eq_of_toNat_eq ?_⟩
    rw [encode_toNat, hi, hir]
    omega

theorem count_validWords : ((List.range 256).filter fun n => (decodeTableWord 8 n).isSome).length = 22 := by decide

/-- Settles O2: the words that decode are the valid ones; the reserved words are the rest of the 256. -/
theorem validWordsExactly : Obligations.ValidWordsExactly := by
  unfold Obligations.ValidWordsExactly
  refine ⟨fun w => (exists_decode_eq_instr_iff w).trans w.valid_iff, count_validWords, ?_⟩
  have hsum := (List.range 256).length_eq_length_filter_add fun n => (decodeTableWord 8 n).isSome
  simp only [count_validWords, List.length_range, Option.not_isSome] at hsum
  omega

/-- Settles O1: the sixteen words are those of their operations, and each reserved word is refused for its field. -/
theorem tableWordsDecode : Obligations.TableWordsDecode := by
  unfold Obligations.TableWordsDecode
  exact ⟨decode_encode (.rowrel 0), decode_encode (.rowrel 3), decode_encode (.rowdrv 0), decode_encode (.rowdrv 3),
    decode_encode .dwell, decode_encode (.colsmp 0), decode_encode (.colsmp 3), decode_encode .cavrel,
    decode_encode .cavasr, decode_encode .settle, decode_encode .caprel, decode_encode .tbrst, decode_encode .tbrun,
    decode_encode .capdis, decode_encode .classify, decode_encode .report,
    rfl, rfl, rfl, rfl, rfl, rfl, rfl, rfl⟩

end Sys2Proof
end

section
/-! The fetch (43_sequencer.md R120; 30_encoding.md R65, R67, R77): what it answers for an assembled program, beyond it,
and for a word that was placed, and the step that follows. -/

namespace Sys2Proof.Machine

/-! ### The steps a fetch leads to -/

/-- R120: a step without reset is the operation fetched; then one step's draws are used up. -/
theorem step_of_fetch_ok {s : State} {i : Instr} (hr : s.draw.rst = false) (hf : s.fetch = .ok i) :
    step s = mapNext State.advanceInputs (exec i s) := by
  simp only [step, hr, hf]

/-- R141: a step without reset is refused with the reason of its fetch. -/
theorem step_of_fetch_error {s : State} {e : Refusal} (hr : s.draw.rst = false) (hf : s.fetch = .error e) :
    step s = .refused e := by
  simp only [step, hr, hf]

/-- Settles O10: each clause is a case of `State.fetch_eq_error_iff`. -/
theorem fetchRefusesByName : Obligations.FetchRefusesByName := by
  unfold Obligations.FetchRefusesByName
  intro s hr
  refine ⟨fun hu => ?_, fun hnone => ?_, fun w why hu hw hd => ?_⟩
  · exact step_of_fetch_error hr ((s.fetch_eq_error_iff _).mpr (.inl ⟨rfl, .inl hu⟩))
  · exact step_of_fetch_error hr ((s.fetch_eq_error_iff _).mpr (.inl ⟨rfl, .inr hnone⟩))
  · exact step_of_fetch_error hr
      ((s.fetch_eq_error_iff _).mpr (.inr ⟨rfl, Nat.lt_succ_of_le hu, w, why, hw, hd⟩))

/-! ### An assembled program (R74) -/

/-- At every address of a program the fetch answers the operation the program has there. -/
theorem State.fetch_of_assembled {s : State} {p : List Instr} (hlen : p.length ≤ romWords)
    (hrom : s.rom = p.map encode) (hu : s.upc.toNat < p.length) : s.fetch = .ok p[s.upc.toNat] := by
  refine (s.fetch_eq_ok_iff _).mpr ⟨hu.trans_le hlen, encode p[s.upc.toNat], ?_, decode_encode _⟩
  rw [hrom, List.getElem?_map, List.getElem?_eq_getElem hu, Option.map_some]

/-- R77: beyond the words the ROM has, the fetch is refused. -/
theorem State.fetch_beyond_rom {s : State} (hu : s.rom.length ≤ s.upc.toNat) : s.fetch = .error .upcOutOfRom :=
  (s.fetch_eq_error_iff _).mpr (.inl ⟨rfl, .inr (List.getElem?_eq_none hu)⟩)

/-- Settles O4: the word at an address of the program is that operation's encoding, and encoding is undone by
decoding; beyond the program the ROM has no word. -/
theorem assembledProgramIsFetched : Obligations.AssembledProgramIsFetched := by
  unfold Obligations.AssembledProgramIsFetched
  refine fun p s hlen hrom => ⟨State.fetch_of_assembled hlen hrom, fun hu => State.fetch_beyond_rom ?_⟩
  rwa [hrom, List.length_map]

/-- Settles O5: the microprogram, its length and its reading as CYCLE. -/
theorem romIsTable : Obligations.RomIsTable := by
  unfold Obligations.RomIsTable
  have hcycle : State.reset.rom = cycleOps.map encode := microprogram_eq_map_encode
  exact ⟨rfl, by rw [hcycle, List.length_map, cycleOps_length], hcycle⟩

/-! ### A placed word (R77) -/

/-- The word is placed at an address the ROM can have. -/
theorem State.placeAddress_lt (s : State) : s.placeAddress.toNat < 46 := by
  unfold State.placeAddress
  split
  · decide
  · simpa using ‹¬romWords ≤ s.upc.toNat›

theorem State.placeAddress_of_le {s : State} (hu : s.upc.toNat ≤ 45) : s.placeAddress = s.upc :=
  if_neg (Nat.not_le_of_lt (Nat.lt_succ_of_le hu))

theorem State.placeAddress_of_ge {s : State} (hu : 46 ≤ s.upc.toNat) : s.placeAddress = 0 := if_pos hu

/-- The step after a word was placed is not under reset: not by the schedule, and a free draw never is. -/
theorem State.withFetchWord_draw_rst (s : State) (n w : Nat) : (s.withFetchWord n w).draw.rst = false := by
  cases h : s.inputs with
  | nil => rw [State.draw_unscheduled (by rw [State.withFetchWord_inputs, h]; rfl), Inputs.free_rst]
  | cons d ds => rw [State.draw_scheduled (by rw [State.withFetchWord_inputs, h]; rfl)]

/-- A valid word that was placed is the one fetched. -/
theorem State.withFetchWord_fetch (s : State) {n w : Nat} {i : Instr}
    (hd : decode (BitVec.ofNat 8 (w % 2 ^ n)) = .instr i) : (s.withFetchWord n w).fetch = .ok i :=
  (State.fetch_eq_ok_iff _ i).mpr ⟨s.placeAddress_lt, _, placeWord_get_same _ _ _, hd⟩

/-- Settles O11: the fetch and the reset input are those of the placed word, so the step is its operation; the frame is
that of `placeWord`, word by word. -/
theorem placedWordRunsNext : Obligations.PlacedWordRunsNext := by
  unfold Obligations.PlacedWordRunsNext
  intro s w i hw hd
  have hmod : w % 2 ^ 8 = w := Nat.mod_eq_of_lt hw
  have hr : (s.withFetchWord 8 w).draw.rst = false := s.withFetchWord_draw_rst 8 w
  have hf : (s.withFetchWord 8 w).fetch = .ok i := s.withFetchWord_fetch (by rwa [hmod])
  refine ⟨hr, hf, fun t ht => by rw [step_of_fetch_ok hr hf, ht, mapNext_next], rfl, rfl, ?_, ?_, ?_,
    placeWord_length _ _ _, State.placeAddress_of_le, State.placeAddress_of_ge, ?_, ?_⟩
  · rw [State.withFetchWord_rom, hmod, placeWord_get_same]
  · exact fun b => placeWord_get_other _ _ b _
  · exact fun b => placeWord_get_filled _ _ b _
  · exact fun hnil => congrArg releaseRst hnil
  · exact fun d ds hcons => congrArg releaseRst hcons

end Sys2Proof.Machine
end

section
/-! The line latches on the output ports (30_encoding.md R69; 10_state.md R21, R25): the two bits of a line code, and
what each port shows of its latch. -/

namespace Sys2Proof.Machine

/-! ### The line codes (R69) -/

theorem PullLine.code_ne (l : PullLine) : l.code ≠ 0b01 := by cases l <;> decide

theorem CtlLine.code_ne (l : CtlLine) : l.code ≠ 0b01 := by cases l <;> decide

/-- `OE` of a capacitor or row line is 1 exactly while it is driven low. -/
theorem PullLine.code_oe_iff (l : PullLine) : l.code.getLsbD 1 = true ↔ l = .low := by cases l <;> decide

/-- `OUT` of a capacitor or row line is always 0. -/
theorem PullLine.code_out (l : PullLine) : l.code.getLsbD 0 = false := by cases l <;> rfl

/-- `OE` of the control line is 1 exactly while it is driven high. -/
theorem CtlLine.code_oe_iff (l : CtlLine) : l.code.getLsbD 1 = true ↔ l = .high := by cases l <;> decide

/-- `OUT` of the control line is always its `OE`. -/
theorem CtlLine.code_out_eq_oe (l : CtlLine) : l.code.getLsbD 0 = l.code.getLsbD 1 := by cases l <;> rfl

/-! ### The row ports, bit by bit (R25) -/

theorem State.ports_rowOE_iff (s : State) (r : RowIdx) :
    s.ports.rowOE.getLsbD r.val = true ↔ s.rowl.get r = .low := by
  rw [State.ports, BitVec.getLsbD_ofFnLE, dif_pos r.isLt, PullLine.code_oe_iff]

theorem State.ports_rowOut (s : State) : s.ports.rowOut = 0 := by
  simp only [State.ports, PullLine.code_out]
  rfl

/-- Settles O42: the codes and pad levels are R69's latch by latch, and each port is a bit of its latch's code. -/
theorem lineCodesOnThePads : Obligations.LineCodesOnThePads := by
  unfold Obligations.LineCodesOnThePads
  refine ⟨⟨rfl, rfl, rfl, rfl⟩, fun l => ⟨l.code_ne, ?_, ?_⟩, fun l => ⟨l.code_ne, ?_, ?_⟩, fun s => ?_⟩
  · rintro rfl; rfl
  · rintro rfl; rfl
  · rintro rfl; rfl
  · rintro rfl; rfl
  · exact ⟨PullLine.code_oe_iff _, PullLine.code_out _, PullLine.code_oe_iff _, PullLine.code_out _,
      s.ports_rowOE_iff, s.ports_rowOut, CtlLine.code_oe_iff _, CtlLine.code_out_eq_oe _⟩

end Sys2Proof.Machine
end

section
/-! The Time Base (40_timebase.md R80 to R86): TBRST, one tick of TBRUN, and a pass as a whole. `State.midPass` is the
state a number of ticks into a pass in closed form; `run_pass` ties it to the runs of the core. -/

namespace Sys2Proof.Machine

/-! ### One operation -/

/-- R81 (f): with `TICK` at `N_TICKS` or above TBRUN is refused. -/
theorem exec_tbrun_of_ge {s : State} (h : 228 ≤ s.tick.toNat) : exec .tbrun s = .refused .tbrunWithoutTbrst :=
  if_neg (Nat.not_lt_of_ge h)

/-- Settles O13: TBRST has no guard, and its next state is the `TICK` write and the fall through. -/
theorem tbrstClearsTick : Obligations.TbrstClearsTick := by
  unfold Obligations.TbrstClearsTick
  exact ⟨decode_encode .tbrst, fun s => (exec_eq_next_iff .tbrst s _).mpr ⟨trivial, rfl⟩⟩

/-- Settles O14: below `N_TICKS` the guard holds and the next state is the tick, axis by axis; else the guard fails. -/
theorem tbrunMakesOneTick : Obligations.TbrunMakesOneTick := by
  unfold Obligations.TbrunMakesOneTick
  refine ⟨decode_encode .tbrun, fun s hs => ⟨(exec_eq_next_iff .tbrun s _).mpr ⟨hs, ?_⟩, tick_succ_toNat hs⟩,
    fun s hs => exec_tbrun_of_ge hs⟩
  rw [State.after, State.runTick, ofFn_axes]
  rfl

/-- Settles O15: the guard reads no draw, and the clock lemma of a tick names none. -/
theorem tickCostIsConstant : Obligations.TickCostIsConstant := by
  unfold Obligations.TickCostIsConstant
  exact fun s hs ds n => ⟨_, (exec_eq_next_iff .tbrun _ _).mpr ⟨hs, rfl⟩, State.runTick_cyc _ _⟩

/-! ### Draws and runs, some steps on -/

/-- Where `k` steps' draws are used up, the draws to come are those from the `k`-th on. -/
theorem State.drawAt_of_drop {s t : State} {k : Nat} (hi : t.inputs = s.inputs.drop k) (hn : t.stepNo = s.stepNo + k)
    (j : Nat) : t.drawAt j = s.drawAt (k + j) := by
  simp [State.drawAt, hi, hn, List.getElem?_drop, Nat.add_assoc]

/-- A run prolonged by one step at its end. -/
theorem run_succ_of_step {s t u : State} {k : Nat} (h : run k s = .next t) (hst : step t = .next u) :
    run (k + 1) s = .next u := by
  rw [run_add h 1, run_succ hst, run_zero]

/-! ### A sample register during a pass (R93, R94) -/

/-- R84: the tick numbers of a pass are 8-bit values. -/
theorem tickNumber_toNat {k : Nat} (hk : k ≤ 228) : (BitVec.ofNat 8 k).toNat = k :=
  (BitVec.toNat_ofNat k 8).trans (Nat.mod_eq_of_lt (by omega))

@[simp] theorem State.polls_zero (s : State) (a : AxisIdx) (n : Nat) :
    s.polls a 0 n = (s.drawAt n).cmpTrip.get a := by
  rw [State.polls, Nat.zero_add]

/-- A sample register after the first `k` polls of a pass, from the value it held before. -/
def sampleAfterPolls (old : Sample) (trip : Nat → Bool) (k : Nat) : Sample :=
  ((lastTrip trip k).map (BitVec.ofNat 8)).getD old

theorem sampleAfterPolls_zero (old : Sample) (trip : Nat → Bool) : sampleAfterPolls old trip 0 = old := rfl

/-- One more poll is one more capture (R92). -/
theorem sampleAfterPolls_succ (old : Sample) (trip : Nat → Bool) (k : Nat) :
    sampleAfterPolls old trip (k + 1) = captured (trip k) (BitVec.ofNat 8 k) (sampleAfterPolls old trip k) := by
  cases h : trip k <;> simp [sampleAfterPolls, lastTrip, h]

/-- After all polls it is the value of R93 and R94. -/
theorem sampleAfterPolls_nTicks (old : Sample) (trip : Nat → Bool) :
    sampleAfterPolls old trip 228 = sampleAfterPass old trip := by
  unfold sampleAfterPolls sampleAfterPass
  rw [fixedParams_nTicks]
  cases lastTrip trip 228 <;> rfl

/-- R93: the last trip wins. -/
theorem sampleAfterPass_of_lastTrip (old : Sample) {trip : Nat → Bool} {k : Nat} (hk : k < 228) (ht : trip k = true)
    (hlast : ∀ j, k < j → j < 228 → trip j = false) : (sampleAfterPass old trip).toNat = k := by
  have h : lastTrip trip fixedParams.nTicks = some k := (lastTrip_eq_some_iff trip 228 k).mpr ⟨hk, ht, hlast⟩
  rw [sampleAfterPass, h, tickNumber_toNat hk.le]

/-- R94: without a trip the register holds what it held. -/
theorem sampleAfterPass_of_noTrip (old : Sample) {trip : Nat → Bool} (h : ∀ k, k < 228 → trip k = false) :
    sampleAfterPass old trip = old := by
  have hnone : lastTrip trip fixedParams.nTicks = none := (lastTrip_eq_none_iff trip 228).mpr h
  rw [sampleAfterPass, hnone]

/-! ### The state inside a pass -/

/-- The state `k` ticks after `s`, where `s` is at the first tick of a pass. -/
def State.midPass (s : State) (k : Nat) : State :=
  { s with
    axis := Vector.ofFn fun a => sampleAfterPolls (s.axis.get a) (s.polls a 0) k
    tick := BitVec.ofNat 8 k
    upc := if k = 228 then s.upc + 1 else s.upc
    cyc := s.cyc + k * s.cfg.tickCycles
    inputs := s.inputs.drop k
    stepNo := s.stepNo + k }

theorem State.midPass_zero {s : State} (h : s.tick = 0) : s.midPass 0 = s := by
  have haxis : (Vector.ofFn fun a => s.axis.get a) = s.axis := vector_ext_get fun a => by simp
  have htick : BitVec.ofNat 8 0 = s.tick := h.symm
  simp only [State.midPass, sampleAfterPolls_zero, haxis, htick, Nat.zero_mul]
  rfl

theorem State.midPass_tick_toNat (s : State) {k : Nat} (hk : k ≤ 228) : (s.midPass k).tick.toNat = k :=
  tickNumber_toNat hk

theorem State.midPass_upc (s : State) {k : Nat} (hk : k < 228) : (s.midPass k).upc = s.upc := if_neg (by omega)

/-- R81 (a): the poll of tick `k` sees the `k`-th draws. -/
theorem State.midPass_draw (s : State) (k : Nat) : (s.midPass k).draw = s.drawAt k := by
  rw [State.draw_eq_drawAt, State.drawAt_of_drop rfl rfl, Nat.add_zero]

theorem State.midPass_axis_get (s : State) (k : Nat) (a : AxisIdx) :
    (s.midPass k).axis.get a = sampleAfterPolls (s.axis.get a) (s.polls a 0) k := by
  simp [State.midPass]

/-- One tick and one step's draws lead from `k` ticks into the pass to `k + 1`. -/
theorem State.midPass_succ (s : State) {k : Nat} (hk : k < 228) :
    ((s.midPass k).after .tbrun).advanceInputs = s.midPass (k + 1) := by
  have haxis : ((s.midPass k).after .tbrun).axis = (s.midPass (k + 1)).axis := vector_ext_get fun a => by
    rw [State.after_tbrun_axis_get, State.midPass_draw, State.midPass_axis_get, State.midPass_axis_get,
      sampleAfterPolls_succ, State.polls_zero]
    rfl
  have hupc : ((s.midPass k).after .tbrun).upc = (s.midPass (k + 1)).upc := by
    rw [State.after_tbrun_upc, s.midPass_tick_toNat hk.le, s.midPass_upc hk]
    rfl
  have htick : (s.midPass k).tick + 1 = (s.midPass (k + 1)).tick := (BitVec.ofNat_add k 1).symm
  have hcyc : (s.midPass k).cyc + s.cfg.tickCycles = (s.midPass (k + 1)).cyc := by
    simp [State.midPass, Nat.succ_mul, Nat.add_assoc]
  have hinputs : (s.midPass k).inputs.tail = (s.midPass (k + 1)).inputs := List.tail_drop
  calc ((s.midPass k).after .tbrun).advanceInputs
      = { s with
          axis := ((s.midPass k).after .tbrun).axis, tick := (s.midPass k).tick + 1
          upc := ((s.midPass k).after .tbrun).upc, cyc := (s.midPass k).cyc + s.cfg.tickCycles
          inputs := (s.midPass k).inputs.tail, stepNo := s.stepNo + k + 1 } := rfl
    _ = s.midPass (k + 1) := by rw [haxis, hupc, htick, hcyc, hinputs]; rfl

/-! ### The pass as a run -/

/-- Inside a pass the fetch answers TBRUN: `UPC` has not moved and no operation writes the ROM. -/
theorem State.midPass_fetch {s : State} (hu : s.upc.toNat ≤ 45) (hw : s.rom[s.upc.toNat]? = some 0x90) {k : Nat}
    (hk : k < 228) : (s.midPass k).fetch = .ok .tbrun := by
  rw [State.fetch_congr (s.midPass_upc hk) rfl, State.fetch_eq_ok_iff]
  exact ⟨Nat.lt_succ_of_le hu, 0x90, hw, decode_encode .tbrun⟩

theorem step_midPass {s : State} (hu : s.upc.toNat ≤ 45) (hw : s.rom[s.upc.toNat]? = some 0x90)
    (hr : NoReset 228 s) {k : Nat} (hk : k < 228) : step (s.midPass k) = .next (s.midPass (k + 1)) := by
  have hrst : (s.midPass k).draw.rst = false := by rw [s.midPass_draw, hr k hk]
  have hacc : (s.midPass k).Accepts .tbrun := (s.midPass_tick_toNat hk.le).trans_lt hk
  rw [step_of_fetch_ok hrst (State.midPass_fetch hu hw hk), (exec_eq_next_iff .tbrun _ _).mpr ⟨hacc, rfl⟩,
    mapNext_next, s.midPass_succ hk]

/-- R83: a pass cannot end early or fail; `k` steps from its first tick lead `k` ticks into it. -/
theorem run_pass {s : State} (hu : s.upc.toNat ≤ 45) (hw : s.rom[s.upc.toNat]? = some 0x90) (ht : s.tick = 0)
    (hr : NoReset 228 s) {k : Nat} (hk : k ≤ 228) : run k s = .next (s.midPass k) := by
  induction k with
  | zero => rw [run_zero, State.midPass_zero ht]
  | succ k ih => exact run_succ_of_step (ih (by omega)) (step_midPass hu hw hr hk)

/-- Settles O18: the facts of the state `k` ticks into the pass. -/
theorem passPollsEveryTickOnce : Obligations.PassPollsEveryTickOnce := by
  unfold Obligations.PassPollsEveryTickOnce
  exact fun s hu hw ht hr k hk => ⟨s.midPass k, run_pass hu hw ht hr hk.le, s.midPass_tick_toNat hk.le,
    s.midPass_upc hk, s.midPass_draw k, rfl⟩

/-- Settles O17: the pass ends in the state 228 ticks into it, whose samples are those of R93 and R94. -/
theorem passCapturesLastTrip : Obligations.PassCapturesLastTrip := by
  unfold Obligations.PassCapturesLastTrip
  intro s hu hw ht hr
  have haxis (a : AxisIdx) : (s.midPass 228).axis.get a = sampleAfterPass (s.axis.get a) (s.polls a 0) := by
    rw [State.midPass_axis_get, sampleAfterPolls_nTicks]
  refine ⟨s.midPass 228, run_pass hu hw ht hr le_rfl, fun a k hk htrip hlast => ?_, fun a hno => ?_, rfl⟩
  · rw [haxis]
    exact sampleAfterPass_of_lastTrip _ hk (by simpa using htrip) (by simpa using hlast)
  · rw [haxis]
    exact sampleAfterPass_of_noTrip _ (by simpa using hno)

end Sys2Proof.Machine
end

section
/-! The Axis Digitizer (41_digitizer.md R92 to R97): the capture latch, the two capacitor-line operations, and a whole
DIGITIZE as a run. `State.passStart` and `State.digitized` are the states where the pass begins and where the run ends;
`run_passStart` and `run_digitized` tie them to the runs of the core. -/

namespace Sys2Proof.Machine

/-! ### One operation -/

/-- Settles O16: TBRUN is accepted and captures axis by axis; every other operation leaves the samples alone. -/
theorem captureLatch : Obligations.CaptureLatch := by
  unfold Obligations.CaptureLatch
  refine ⟨fun s hs => ⟨s.after .tbrun, (exec_eq_next_iff .tbrun s _).mpr ⟨hs, rfl⟩, fun a => ?_⟩, fun i s t hi hx => ?_⟩
  · rw [s.after_tbrun_axis_get]
    exact ⟨fun htrip => by rw [htrip, captured_true], fun hno => by rw [hno, captured_false]⟩
  · rw [State.after_eq_of_exec hx, s.after_axis hi]

/-- Settles O19: CAPREL has no guard, and its next state is the write of both latches and the fall through. -/
theorem caprelReleasesBothLines : Obligations.CaprelReleasesBothLines := by
  unfold Obligations.CaprelReleasesBothLines
  exact ⟨decode_encode .caprel, fun s => (exec_eq_next_iff .caprel s _).mpr ⟨trivial, rfl⟩⟩

/-- R96: a capacitor line driven low stays low until the next CAPREL. -/
theorem capAfter_low {i : Instr} (hi : i ≠ .caprel) : capAfter i .low = .low := by
  by_contra hne
  rcases writes_of_capAfter_ne hne with rfl | rfl
  · exact hi rfl
  · exact hne rfl

/-- Settles O20: CAPDIS has no guard and reads nothing; what it writes is the same on every state, so twice is once. -/
theorem capdisDischargesBothLines : Obligations.CapdisDischargesBothLines := by
  unfold Obligations.CapdisDischargesBothLines
  refine ⟨decode_encode .capdis, fun s => (exec_eq_next_iff .capdis s _).mpr ⟨trivial, rfl⟩,
    fun i s t hi hx hlow a => ?_, fun s t u ht hu => ?_⟩
  · rw [State.after_eq_of_exec hx, s.after_cap_get, hlow, capAfter_low hi]
  · rw [State.after_eq_of_exec hu, State.after_eq_of_exec ht]
    rfl

/-! ### A ROM that holds a piece of program -/

section
variable {rom : List Microword} {a k : Nat} {p : List Instr} {i : Instr} {s : State}

theorem holdsAt.word (h : holdsAt rom a p) (hk : p[k]? = some i) : rom[a + k]? = some (encode i) := by
  obtain ⟨hlt, -⟩ := List.getElem?_eq_some_iff.mp hk
  rw [h.2 k hlt, hk, Option.map_some]

/-- R120: where the `k`-th word of a piece of program is fetched, the step is the operation it stands for. -/
theorem holdsAt.step_eq (h : holdsAt rom a p) (hk : p[k]? = some i) (hrom : s.rom = rom) (hu : s.upc.toNat = a + k)
    (hr : s.draw.rst = false) (hacc : s.Accepts i) : step s = .next (s.after i).advanceInputs := by
  have hfits := h.1
  obtain ⟨hlt, -⟩ := List.getElem?_eq_some_iff.mp hk
  rw [romWords_eq] at hfits
  have hf : s.fetch = .ok i := (s.fetch_eq_ok_iff i).mpr
    ⟨by omega, encode i, by rw [hrom, hu, h.word hk], decode_encode i⟩
  rw [step_of_fetch_ok hr hf, (exec_eq_next_iff i s _).mpr ⟨hacc, rfl⟩, mapNext_next]

end

/-! ### The states of a run -/

/-- The state after CAPREL and TBRST: at the first tick of the pass. -/
def State.passStart (s : State) : State := ((s.after .caprel).advanceInputs.after .tbrst).advanceInputs

theorem State.after_advanceInputs_draw (s : State) (i : Instr) : (s.after i).advanceInputs.draw = s.drawAt 1 := by
  rw [State.draw_eq_drawAt, State.drawAt_advanceInputs, State.drawAt_congr (s.after_inputs i) (s.after_stepNo i)]

theorem State.passStart_drawAt (s : State) (k : Nat) : s.passStart.drawAt k = s.drawAt (2 + k) :=
  State.drawAt_of_drop (by simp [State.passStart, ← List.drop_one]) rfl k

theorem State.passStart_polls (s : State) (a : AxisIdx) : s.passStart.polls a 0 = s.polls a 2 :=
  funext fun n => by rw [State.polls_zero, s.passStart_drawAt, State.polls]

/-- The state at the end of the run: a pass of 228 ticks and CAPDIS further. -/
def State.digitized (s : State) : State := ((s.passStart.midPass 228).after .capdis).advanceInputs

/-! ### The run, from a ROM that holds DIGITIZE at `UPC` -/

section
variable {s : State} (h : holdsAt s.rom s.upc.toNat digitizeOps)
include h

/-- The addresses of the run do not wrap. -/
theorem upc_le_of_holdsAt_digitizeOps : s.upc.toNat ≤ 42 := by
  have hfits : s.upc.toNat + digitizeOps.length ≤ 46 := h.1
  have hlen : digitizeOps.length = 4 := rfl
  omega

theorem State.passStart_upc_toNat : s.passStart.upc.toNat = s.upc.toNat + 2 := by
  have hu := upc_le_of_holdsAt_digitizeOps h
  have hupc : s.passStart.upc = s.upc + 1 + 1 := rfl
  rw [hupc]
  bv_omega

theorem run_passStart (hr : NoReset 2 s) : run 2 s = .next s.passStart := by
  have hu := upc_le_of_holdsAt_digitizeOps h
  have hrst : s.draw.rst = false := by rw [s.draw_eq_drawAt, hr 0 (by decide)]
  have hrst' : (s.after .caprel).advanceInputs.draw.rst = false := by
    rw [s.after_advanceInputs_draw, hr 1 (by decide)]
  have hcaprel : step s = .next (s.after .caprel).advanceInputs := h.step_eq (k := 0) rfl rfl rfl hrst trivial
  have htbrst : step (s.after .caprel).advanceInputs = .next s.passStart :=
    h.step_eq (k := 1) rfl rfl (upc_succ_toNat (u := s.upc) (by omega)) hrst' trivial
  exact run_succ_of_step (run_succ hcaprel 0) htbrst

theorem run_digitized (hr : NoReset 231 s) : run 231 s = .next s.digitized := by
  have hu := upc_le_of_holdsAt_digitizeOps h
  have hupc := State.passStart_upc_toNat h
  have htbrun : s.passStart.rom[s.passStart.upc.toNat]? = some 0x90 := by
    rw [hupc]
    exact h.word (k := 2) rfl
  have hpass : run 228 s.passStart = .next (s.passStart.midPass 228) :=
    run_pass (by omega) htbrun rfl (fun k hk => by rw [s.passStart_drawAt, hr _ (by omega)]) le_rfl
  have hafter : (s.passStart.midPass 228).upc.toNat = s.upc.toNat + 3 :=
    (upc_succ_toNat (u := s.passStart.upc) (by omega)).trans (congrArg (· + 1) hupc)
  have hrst : (s.passStart.midPass 228).draw.rst = false := by
    rw [State.midPass_draw, s.passStart_drawAt, hr _ (by decide)]
  have hcapdis : step (s.passStart.midPass 228) = .next s.digitized :=
    h.step_eq (k := 3) rfl rfl hafter hrst trivial
  calc run 231 s
      = run (228 + 1) s.passStart := run_add (run_passStart h fun k hk => hr k (by omega)) 229
    _ = .next s.digitized := run_succ_of_step hpass hcapdis

end

/-! ### What the run leaves (R97) -/

/-- R93, R94: the samples a run leaves are those of its pass, whose first poll is the third step's. -/
theorem State.digitized_axis (s : State) : s.digitized.axis =
    #v[sampleAfterPass (s.axis.get xAxis) (s.polls xAxis 2), sampleAfterPass (s.axis.get yAxis) (s.polls yAxis 2)] := by
  have haxis : s.digitized.axis =
      Vector.ofFn fun a => sampleAfterPolls (s.axis.get a) (s.passStart.polls a 0) 228 := rfl
  simp only [haxis, ofFn_axes, State.passStart_polls, sampleAfterPolls_nTicks]

/-- Settles O21: the run ends in `State.digitized`, which is read off element by element. -/
theorem digitizerRunEffect : Obligations.DigitizerRunEffect := by
  unfold Obligations.DigitizerRunEffect
  intro s h hr
  have hupc : s.digitized.upc = s.upc + 4 := by
    have hfalls : s.digitized.upc = s.upc + 1 + 1 + 1 + 1 := rfl
    rw [hfalls]
    bv_omega
  have hcyc : s.digitized.cyc = s.cyc + 3 * s.cfg.opCycles + 228 * s.cfg.tickCycles := by
    have hsum : s.digitized.cyc =
        s.cyc + s.cfg.opCycles + s.cfg.opCycles + 228 * s.cfg.tickCycles + s.cfg.opCycles := rfl
    omega
  have hinputs : s.digitized.inputs = s.inputs.drop 231 := by
    simp [State.digitized, State.midPass, State.passStart]
  rw [run_digitized h hr, ← s.digitized_axis, ← hupc, ← hcyc, ← hinputs]
  rfl

end Sys2Proof.Machine
end

section
/-! The Matrix Scanner (42_matrix_scanner.md R105 to R115): its four operations, and a whole SCAN as a run. In closed
form `State.midScan` is the state a number of steps into a scan; `run_scan` ties it to the runs of the core. -/

namespace Sys2Proof.Machine

/-! ### One operation -/

theorem encode_rowrel (r : RowIdx) : encode (.rowrel r) = BitVec.ofNat 8 r.val := by
  simp [encode, Instr.opcode, Instr.rField]

/-- R106: with another row driven ROWDRV is refused. -/
theorem exec_rowdrv_of_otherRow {s : State} {r q : RowIdx} (hq : q ≠ r) (hlow : s.rowl.get q = .low) :
    exec (.rowdrv r) s = .refused .rowContention :=
  if_pos ((otherRowLow_iff s.rowl r).mpr ⟨q, hq, hlow⟩)

/-- R106: with every other row released ROWDRV has a meaning. -/
theorem State.accepts_rowdrv {s : State} {r : RowIdx} (h : ∀ q, q ≠ r → s.rowl.get q = .rel) :
    s.Accepts (.rowdrv r) := fun q hq hlow => PullLine.noConfusion ((h q hq).symm.trans hlow)

/-- Settles O22: ROWREL has no guard; its write is that of one element, idle where the row is released. -/
theorem rowrelReleasesItsRow : Obligations.RowrelReleasesItsRow := by
  unfold Obligations.RowrelReleasesItsRow
  exact fun r s => ⟨encode_rowrel r ▸ decode_encode (.rowrel r), s.after (.rowrel r),
    (exec_eq_next_iff _ _ _).mpr ⟨trivial, rfl⟩, get_setAt_same _ _ _, fun q hq => get_setAt_other _ _ hq,
    fun hrel => (congrArg State.rowl (State.setRowl_eq_self hrel) :), rfl⟩

/-- Settles O23: ROWDRV writes one element where its guard holds, and is refused where it does not. -/
theorem rowdrvDrivesItsRow : Obligations.RowdrvDrivesItsRow := by
  unfold Obligations.RowdrvDrivesItsRow
  exact ⟨fun r s hrel => ⟨decode_encode (.rowdrv r), s.after (.rowdrv r),
      (exec_eq_next_iff _ _ _).mpr ⟨State.accepts_rowdrv hrel, rfl⟩, get_setAt_same _ _ _,
      fun q hq => get_setAt_other _ _ hq, rfl⟩,
    fun r q s hq hlow => exec_rowdrv_of_otherRow hq hlow⟩

/-- Settles O24: DWELL has no guard, and its next state is the fall through alone. -/
theorem dwellOnlyPassesTime : Obligations.DwellOnlyPassesTime := by
  unfold Obligations.DwellOnlyPassesTime
  exact ⟨decode_encode .dwell, fun s => (exec_eq_next_iff .dwell s _).mpr ⟨trivial, rfl⟩⟩

/-- Settles O25: COLSMP has no guard; its write is that of one element, with the draw itself. -/
theorem colsmpStoresColumnsAsRead : Obligations.ColsmpStoresColumnsAsRead := by
  unfold Obligations.ColsmpStoresColumnsAsRead
  exact fun r s => ⟨decode_encode (.colsmp r), s.after (.colsmp r), (exec_eq_next_iff _ _ _).mpr ⟨trivial, rfl⟩,
    get_setAt_same _ _ _, fun q hq => get_setAt_other _ _ hq, rfl⟩

/-! ### The operations of SCAN -/

theorem scanOps_length : scanOps.length = 16 := by decide

theorem lt_of_scanOps {k : Nat} {i : Instr} (h : scanOps[k]? = some i) : k < 16 :=
  (List.getElem?_eq_some_iff.mp h).1

/-- SCAN consists of the scanner's four operations. -/
theorem scanOps_cases {i : Instr} (h : i ∈ scanOps) :
    i = .dwell ∨ ∃ r, i = .rowrel r ∨ i = .rowdrv r ∨ i = .colsmp r := by
  revert i
  decide

theorem opSteps_of_mem_scanOps {i : Instr} (h : i ∈ scanOps) : opSteps i = 1 := by
  rcases scanOps_cases h with rfl | ⟨r, rfl | rfl | rfl⟩ <;> rfl

/-- R109: row `r` is sampled in step `4r + 3`. -/
theorem scanOps_eq_colsmp_iff : ∀ k < 16, ∀ r : RowIdx, (scanOps[k]? = some (.colsmp r) ↔ k = 4 * r.val + 3) := by
  decide

/-- R75: CYCLE begins with SCAN. -/
theorem cycleOps_of_scanOps {k : Nat} {i : Instr} (h : scanOps[k]? = some i) : cycleOps[k]? = some i := by
  simp only [cycleOps, List.append_assoc]
  rw [List.getElem?_append_left (lt_of_scanOps h), h]

theorem drivenRow_at_colsmp (first : Bool) (r : RowIdx) : drivenRow first (4 * r.val + 3) = some r := by
  revert first r
  decide

/-- What a scanner operation does besides the row latches, the RowSnapshot and the clock. -/
theorem State.after_of_mem_scanOps {i : Instr} (h : i ∈ scanOps) (s : State) : s.after i = { s with
    row := (s.after i).row, rowl := rowlAfter i s.rowl, upc := s.upc + 1, cyc := s.cyc + stepCycles s.cfg i } := by
  rcases scanOps_cases h with rfl | ⟨r, rfl | rfl | rfl⟩ <;> rfl

theorem State.after_row_get (s : State) (i : Instr) (r : RowIdx) :
    (s.after i).row.get r = if i = .colsmp r then s.draw.col else s.row.get r := by
  split
  · next hi => rw [hi]; exact get_setAt_same _ _ _
  · next hi => exact by_contra fun hne => hi (State.writes_of_after_row_ne hne)

/-- The clock cycles of a sequence with one more operation at its end. -/
theorem seqCycles_take_succ (c : OpenParams) {p : List Instr} {k : Nat} {i : Instr} (h : p[k]? = some i) :
    seqCycles c (p.take (k + 1)) = seqCycles c (p.take k) + opSteps i * stepCycles c i := by
  simp [seqCycles, List.take_add_one, h]

theorem seqCycles_scanOps (c : OpenParams) : seqCycles c scanOps = 12 * c.opCycles + 4 * c.dwellCycles := by
  simp +arith [seqCycles, scanOps, scanRowOps, List.finRange, stepCycles, opSteps]

/-! ### The state inside a scan -/

/-- The state `k` steps after `s`, where `s` is at the first step of a scan; `first` says that no row is driven there,
as in the first cycle, else row 3 is. -/
def State.midScan (s : State) (first : Bool) (k : Nat) : State :=
  { s with
    row := Vector.ofFn fun r => if 4 * r.val + 3 < k then (s.drawAt (4 * r.val + 3)).col else s.row.get r
    rowl := rowLatches (drivenRow first k)
    upc := s.upc + BitVec.ofNat 6 k
    cyc := s.cyc + seqCycles s.cfg (scanOps.take k)
    inputs := s.inputs.drop k
    stepNo := s.stepNo + k }

/-- R110: a scan can begin with row 3 driven or with no row driven, and these are the latches of address 0. -/
theorem exists_rowLatches_of_released {l : PerRow PullLine} (h : ∀ r, r ≠ 3 → l.get r = .rel) :
    ∃ first, l = rowLatches (drivenRow first 0) := by
  have hrow3 : ∃ first, l.get 3 = (rowLatches (drivenRow first 0)).get 3 := by
    cases l.get 3 with
    | rel => exact ⟨true, by decide⟩
    | low => exact ⟨false, by decide⟩
  have hothers : ∀ r : RowIdx, r ≠ 3 → ∀ first, (rowLatches (drivenRow first 0)).get r = .rel := by decide
  obtain ⟨first, h3⟩ := hrow3
  refine ⟨first, vector_ext_get fun r => ?_⟩
  by_cases hr : r = 3
  · rw [hr, h3]
  · rw [h r hr, hothers r hr]

theorem State.midScan_draw (s : State) (first : Bool) (k : Nat) : (s.midScan first k).draw = s.drawAt k := by
  rw [State.draw_eq_drawAt, State.drawAt_of_drop rfl rfl, Nat.add_zero]

theorem State.midScan_row_get (s : State) (first : Bool) (k : Nat) (r : RowIdx) :
    (s.midScan first k).row.get r = if 4 * r.val + 3 < k then (s.drawAt (4 * r.val + 3)).col else s.row.get r := by
  simp [State.midScan]

section
variable {s : State} {first : Bool} {k : Nat} {i : Instr}

theorem State.midScan_zero (h : s.rowl = rowLatches (drivenRow first 0)) : s.midScan first 0 = s := by
  have hrow : (s.midScan first 0).row = s.row := vector_ext_get fun r => by simp [State.midScan_row_get]
  have hupc : s.upc + BitVec.ofNat 6 0 = s.upc := BitVec.add_zero s.upc
  calc s.midScan first 0
      = { s with row := (s.midScan first 0).row, rowl := rowLatches (drivenRow first 0),
                 upc := s.upc + BitVec.ofNat 6 0 } := rfl
    _ = s := by rw [hrow, hupc, ← h]

/-- One operation and one step's draws lead from `k` steps into the scan to `k + 1`. -/
theorem State.midScan_succ (hi : scanOps[k]? = some i) :
    ((s.midScan first k).after i).advanceInputs = s.midScan first (k + 1) := by
  have hmem := List.mem_of_getElem? hi
  have hk : k < 16 := lt_of_scanOps hi
  have hrow : ((s.midScan first k).after i).row = (s.midScan first (k + 1)).row := vector_ext_get fun r => by
    have hsample := scanOps_eq_colsmp_iff k hk r
    rw [hi, Option.some.injEq] at hsample
    have hlater : k ≠ 4 * r.val + 3 → (4 * r.val + 3 < k ↔ 4 * r.val + 3 < k + 1) := by omega
    simp only [State.after_row_get, State.midScan_draw, State.midScan_row_get, hsample]
    split
    · next hnow => rw [if_pos (by omega), hnow]
    · next hnot => simp only [hlater hnot]
  have hrowl : rowlAfter i (s.midScan first k).rowl = (s.midScan first (k + 1)).rowl :=
    (lines_follow_cycleOps k (by omega) first i (cycleOps_of_scanOps hi)).1
  have hupc : (s.midScan first k).upc + 1 = (s.midScan first (k + 1)).upc := by
    simp [State.midScan, BitVec.ofNat_add, BitVec.add_assoc]
  have hcyc : (s.midScan first k).cyc + stepCycles s.cfg i = (s.midScan first (k + 1)).cyc := by
    simp [State.midScan, seqCycles_take_succ s.cfg hi, opSteps_of_mem_scanOps hmem, Nat.add_assoc]
  have hinputs : (s.midScan first k).inputs.tail = (s.midScan first (k + 1)).inputs := List.tail_drop
  calc ((s.midScan first k).after i).advanceInputs
      = { s with
          row := ((s.midScan first k).after i).row, rowl := rowlAfter i (s.midScan first k).rowl
          upc := (s.midScan first k).upc + 1, cyc := (s.midScan first k).cyc + stepCycles s.cfg i
          inputs := (s.midScan first k).inputs.tail, stepNo := s.stepNo + k + 1 } := by
        rw [State.after_of_mem_scanOps hmem]; rfl
    _ = s.midScan first (k + 1) := by rw [hrow, hrowl, hupc, hcyc, hinputs]; rfl

/-- R110: no operation of a scan is refused; where a ROWDRV stands no row is driven. -/
theorem State.midScan_accepts (hi : scanOps[k]? = some i) : (s.midScan first k).Accepts i := by
  have hk : k < 16 := lt_of_scanOps hi
  rcases scanOps_cases (List.mem_of_getElem? hi) with rfl | ⟨r, rfl | rfl | rfl⟩
  · trivial
  · trivial
  · intro q _ hlow
    have hnone := drivenRow_eq_none_of_rowdrv k (by omega) first r (cycleOps_of_scanOps hi)
    have hsome : drivenRow first k = some q := (rowLatches_get_eq_low_iff _ q).mp hlow
    cases hnone.symm.trans hsome
  · trivial

/-! ### The scan as a run, from a ROM that holds SCAN at `UPC` -/

variable (h : holdsAt s.rom s.upc.toNat scanOps)
include h

/-- The addresses of the scan do not wrap. -/
theorem State.midScan_upc_toNat (hk : k < 16) : (s.midScan first k).upc.toNat = s.upc.toNat + k := by
  have hfits : s.upc.toNat + 16 ≤ 46 := h.1
  have hupc : (s.midScan first k).upc = s.upc + BitVec.ofNat 6 k := rfl
  rw [hupc]
  bv_omega

theorem State.midScan_fetch (hi : scanOps[k]? = some i) : (s.midScan first k).fetch = .ok i := by
  have hfits : s.upc.toNat + 16 ≤ 46 := h.1
  have hk : k < 16 := lt_of_scanOps hi
  have hupc := State.midScan_upc_toNat (first := first) h hk
  exact (State.fetch_eq_ok_iff _ i).mpr ⟨by omega, encode i, by rw [hupc]; exact h.word hi, decode_encode i⟩

theorem step_midScan (hi : scanOps[k]? = some i) (hr : NoReset 16 s) :
    step (s.midScan first k) = .next (s.midScan first (k + 1)) := by
  have hk := lt_of_scanOps hi
  have hrst : (s.midScan first k).draw.rst = false := by rw [State.midScan_draw, hr k hk]
  rw [← State.midScan_succ hi]
  exact h.step_eq hi rfl (State.midScan_upc_toNat h hk) hrst (State.midScan_accepts hi)

/-- R110: a scan cannot fail; `k` steps from its first step lead `k` steps into it. -/
theorem run_scan (hrowl : s.rowl = rowLatches (drivenRow first 0)) (hr : NoReset 16 s) (hk : k ≤ 16) :
    run k s = .next (s.midScan first k) := by
  induction k with
  | zero => rw [run_zero, State.midScan_zero hrowl]
  | succ k ih =>
    have hi : scanOps[k]? = some scanOps[k] := List.getElem?_eq_getElem (by rw [scanOps_length]; omega)
    exact run_succ_of_step (ih (by omega)) (step_midScan h hi hr)

end

/-! ### What the scan leaves (R109, R110) -/

theorem State.midScan_row_end (s : State) (first : Bool) (r : RowIdx) :
    (s.midScan first 16).row.get r = (s.drawAt (4 * r.val + 3)).col := by
  have hr : r.val < 4 := r.isLt
  rw [State.midScan_row_get, if_pos (by omega)]

/-- Settles O27: the run ends in `State.midScan` 16, which is read off element by element. -/
theorem scanEffect : Obligations.ScanEffect := by
  unfold Obligations.ScanEffect
  intro s h hrel hr
  obtain ⟨first, hrowl⟩ := exists_rowLatches_of_released hrel
  have hrow : (s.midScan first 16).row =
      #v[(s.drawAt 3).col, (s.drawAt 7).col, (s.drawAt 11).col, (s.drawAt 15).col] := rfl
  have hlow3 : rowLatches (drivenRow first 16) = #v[.rel, .rel, .rel, .low] := rfl
  have hcyc : (s.midScan first 16).cyc = s.cyc + 12 * s.cfg.opCycles + 4 * s.cfg.dwellCycles := by
    have hall : scanOps.take 16 = scanOps := rfl
    rw [State.midScan, hall, seqCycles_scanOps, Nat.add_assoc]
  rw [run_scan h hrowl hr le_rfl, ← hrow, ← hlow3, ← hcyc]
  rfl

/-! ### With the key matrix as environment (R115) -/

/-- With one row driven the matrix shows that row's keys, a key down as 0. -/
theorem matrixCol_getLsbD (key : Keys) (r : RowIdx) (c : ColIdx) :
    (matrixCol (rowLatches (some r)) key).getLsbD c.val = !((key.get r).get c) := by
  have hpulled : pulledLow (rowLatches (some r)) key c = (key.get r).get c := by
    simp [pulledLow, rowLatches_get_eq_low_iff]
  rw [matrixCol, BitVec.getLsbD_ofFnLE, dif_pos c.isLt, hpulled]

/-- Settles O28: the step that samples row `r` begins with row `r` alone driven, so its draw is that row's keys. -/
theorem scanShowsTheKeys : Obligations.ScanShowsTheKeys := by
  unfold Obligations.ScanShowsTheKeys
  intro s key h hrel hr hmatrix
  obtain ⟨first, hrowl⟩ := exists_rowLatches_of_released hrel
  refine ⟨s.midScan first 16, run_scan h hrowl hr le_rfl, fun r c => ?_⟩
  have hk : 4 * r.val + 3 < 16 := by have hr4 : r.val < 4 := r.isLt; omega
  have hcolsmp : scanOps[4 * r.val + 3]? = some (.colsmp r) := (scanOps_eq_colsmp_iff _ hk r).mpr rfl
  have hdriven : (s.midScan first (4 * r.val + 3)).rowl = rowLatches (some r) :=
    congrArg rowLatches (drivenRow_at_colsmp first r)
  have hcol : (s.drawAt (4 * r.val + 3)).col = matrixCol (rowLatches (some r)) key := by
    rw [← s.midScan_draw first, ← hdriven]
    exact hmatrix _ _ r hk (run_scan h hrowl hr hk.le) (State.midScan_fetch h hcolsmp)
  rw [State.midScan_row_end, hcol, matrixCol_getLsbD]

end Sys2Proof.Machine
end

section
/-! The Control-Line Sequencer (43_sequencer.md R120 to R129): the step, the three control transfers, and its five
operations. -/

namespace Sys2Proof.Machine

/-! ### The classification (R125, R126) -/

/-- R126: for samples in the range of R33, exceeding the threshold is being one of the seven values above it. -/
theorem classOf_joystick_iff_of_le {axis : PerAxis Sample} (h : ∀ a, (axis.get a).toNat ≤ 227) :
    classOf axis = .joystick ↔ ∀ a : AxisIdx, 221 ≤ (axis.get a).toNat ∧ (axis.get a).toNat ≤ 227 :=
  (classOf_joystick_iff axis).trans (forall_congr' fun a => (and_iff_left (h a)).symm)

/-- R126: the pairs of samples in range that give Joystick. -/
theorem filter_joystick_eq :
    ((Finset.range 228 ×ˢ Finset.range 228).filter fun p =>
      classOf #v[BitVec.ofNat 8 p.1, BitVec.ofNat 8 p.2] = .joystick) =
    Finset.Icc 221 227 ×ˢ Finset.Icc 221 227 := by
  ext ⟨x, y⟩
  have hclass : classOf #v[BitVec.ofNat 8 x, BitVec.ofNat 8 y] = .joystick ↔ 220 < x % 256 ∧ 220 < y % 256 :=
    classOf_joystick_iff_xy _
  simp only [Finset.mem_filter, Finset.mem_product, Finset.mem_range, Finset.mem_Icc, hclass]
  omega

/-- Settles O33: CLASSIFY writes `classOf` of the samples, so each clause is one about `classOf`; the pairs are a
square of side 7. -/
theorem classificationComparison : Obligations.ClassificationComparison := by
  unfold Obligations.ClassificationComparison
  refine ⟨fun s => ⟨s.after .classify, rfl, classOf_joystick_iff_xy s.axis⟩,
    fun s h => ⟨s.after .classify, rfl, classOf_joystick_iff_of_le h⟩, ?_, by decide, by decide, by decide,
    classOf_comm⟩
  rw [filter_joystick_eq, Finset.card_product, Nat.card_Icc]

/-- Settles O32: CLASSIFY has no guard; the class it writes and the class of its tag are both `classOf`. -/
theorem classifyWritesClassAndTag : Obligations.ClassifyWritesClassAndTag := by
  unfold Obligations.ClassifyWritesClassAndTag
  exact ⟨decode_encode .classify, fun s => ⟨classOf s.axis, classOf_joystick_iff_xy s.axis,
    (exec_eq_next_iff .classify s _).mpr ⟨trivial, rfl⟩⟩, by decide, by decide, by decide⟩

/-! ### The control transfers (R121) -/

/-- R81: the tick a pass ends with is `TICK_MAX`. -/
theorem State.after_tbrun_upc_eq_ite_tickMax (s : State) :
    (s.after .tbrun).upc = if s.tick.toNat = fixedParams.tickMax then s.upc + 1 else s.upc := by
  have hlast : s.tick.toNat + 1 = 228 ↔ s.tick.toNat = 227 := by omega
  simp only [s.after_tbrun_upc, hlast]

/-- R121: where `UPC` goes depends on `UPC` and `TICK` alone. -/
theorem State.after_upc_congr {s s' : State} (hu : s.upc = s'.upc) (ht : s.tick = s'.tick) (i : Instr) :
    (s.after i).upc = (s'.after i).upc := by
  cases i with
  | tbrun => rw [s.after_tbrun_upc, s'.after_tbrun_upc, hu, ht]
  | report => rfl
  | _ => exact congrArg (· + 1) hu

/-- Settles O36: the three transfers are those of the next state `State.after`, which has a lemma for each. -/
theorem threeControlTransfers : Obligations.ThreeControlTransfers := by
  unfold Obligations.ThreeControlTransfers
  refine ⟨fun i s t hx => ?_, fun i s s' t t' hu ht hx hx' => ?_⟩
  · obtain rfl := State.after_eq_of_exec hx
    refine ⟨s.after_upc, ?_, ?_⟩
    · rintro rfl
      exact s.after_tbrun_upc_eq_ite_tickMax
    · rintro rfl
      rfl
  · rw [State.after_eq_of_exec hx, State.after_eq_of_exec hx', State.after_upc_congr hu ht]

/-- Settles O34: REPORT has no guard; TBRUN holds `UPC` or falls through, and every other operation falls through. -/
theorem reportHandsOverAndRestarts : Obligations.ReportHandsOverAndRestarts := by
  unfold Obligations.ReportHandsOverAndRestarts
  refine ⟨decode_encode .report, fun s => (exec_eq_next_iff .report s _).mpr ⟨trivial, rfl⟩,
    fun i s t hx hstay hnext => by_contra fun hr => ?_⟩
  obtain rfl := State.after_eq_of_exec hx
  by_cases hb : i = .tbrun
  · subst hb
    rw [s.after_tbrun_upc] at hstay hnext
    split at hnext
    · exact hnext rfl
    · next hmore => exact hstay (if_neg hmore)
  · exact hnext (s.after_upc hb hr)

/-! ### The control line and the settle delay (R122 to R124) -/

/-- R123: the control line driven high stays high until the next CAVREL. -/
theorem cavAfter_high {i : Instr} (hi : i ≠ .cavrel) : cavAfter i .high = .high := by
  by_contra hne
  rcases writes_of_cavAfter_ne hne with rfl | rfl
  · exact hi rfl
  · exact hne rfl

/-- Settles O29: CAVREL has no guard, and its next state is the latch write and the fall through. -/
theorem cavrelReleasesTheControlLine : Obligations.CavrelReleasesTheControlLine := by
  unfold Obligations.CavrelReleasesTheControlLine
  exact ⟨decode_encode .cavrel, fun s => (exec_eq_next_iff .cavrel s _).mpr ⟨trivial, rfl⟩⟩

/-- Settles O30: CAVASR has no guard; the latch after any operation is `cavAfter`. -/
theorem cavasrAssertsTheControlLine : Obligations.CavasrAssertsTheControlLine := by
  unfold Obligations.CavasrAssertsTheControlLine
  refine ⟨decode_encode .cavasr, fun s => (exec_eq_next_iff .cavasr s _).mpr ⟨trivial, rfl⟩,
    fun i s t hi hx hhigh => ?_⟩
  rw [State.after_eq_of_exec hx, s.after_cav, hhigh, cavAfter_high hi]

/-- Settles O31: SETTLE has no guard, and its next state is the fall through alone. -/
theorem settleOnlyPassesTime : Obligations.SettleOnlyPassesTime := by
  unfold Obligations.SettleOnlyPassesTime
  exact ⟨decode_encode .settle, fun s => (exec_eq_next_iff .settle s _).mpr ⟨trivial, rfl⟩⟩

/-! ### The step (R120) -/

/-- Settles O9: the word at `UPC` is what the fetch answers, so the step is its operation; the draws are read off the
schedule. -/
theorem stepRunsTheDecodedInstruction : Obligations.StepRunsTheDecodedInstruction := by
  unfold Obligations.StepRunsTheDecodedInstruction
  refine ⟨fun s w i hr hu hw hd => ?_, fun s d ds => State.draw_scheduled, fun s hnil => ?_⟩
  · have hf : s.fetch = .ok i := (s.fetch_eq_ok_iff i).mpr ⟨Nat.lt_succ_of_le hu, w, hw, hd⟩
    have hstep := step_of_fetch_ok hr hf
    exact ⟨fun t ht => by rw [hstep, ht, mapNext_next]; rfl, fun r hx => by rw [hstep, hx, mapNext_refused]⟩
  · rw [State.draw_unscheduled hnil, Inputs.free, ofFn_axes]

end Sys2Proof.Machine
end

section
/-! One outer cycle as a run (43_sequencer.md R129 to R134; 42_matrix_scanner.md R114; 70_reset_and_hazards.md R181).
`State.scanned` and `State.measured` are the effects of a scan and of a measurement, `State.cycled` their composition
with CLASSIFY and REPORT; `run_scanned`, `run_measured` and `run_cycled` tie them to the runs of the core. -/

namespace Sys2Proof.Machine

/-! ### The draws along a run -/

/-- The draws to come in `t` are those of `s` from `n` steps on. -/
structure State.DrawsAfter (s : State) (n : Nat) (t : State) : Prop where
  inputs : t.inputs = s.inputs.drop n
  stepNo : t.stepNo = s.stepNo + n

section
variable {s t u : State} {j k l n : Nat}

theorem State.DrawsAfter.trans (h : s.DrawsAfter j t) (h' : t.DrawsAfter k u) : s.DrawsAfter (j + k) u where
  inputs := by rw [h'.inputs, h.inputs, List.drop_drop]
  stepNo := by rw [h'.stepNo, h.stepNo, Nat.add_assoc]

theorem State.DrawsAfter.drawAt (h : s.DrawsAfter n t) (k : Nat) : t.drawAt k = s.drawAt (n + k) :=
  State.drawAt_of_drop h.inputs h.stepNo k

theorem State.DrawsAfter.draw (h : s.DrawsAfter n t) : t.draw = s.drawAt n := by
  rw [State.draw_eq_drawAt, h.drawAt, Nat.add_zero]

theorem State.DrawsAfter.polls (h : s.DrawsAfter n t) (a : AxisIdx) (k : Nat) : t.polls a k = s.polls a (n + k) :=
  funext fun j => by rw [State.polls, h.drawAt, State.polls, Nat.add_assoc]

/-- What is left of a stretch without reset. -/
theorem State.DrawsAfter.noReset (h : s.DrawsAfter n t) (hr : NoReset l s) (hl : n + k ≤ l) : NoReset k t :=
  fun m hm => by rw [h.drawAt, hr _ (by omega)]

/-- An operation uses up one step's draws. -/
theorem State.drawsAfter_after (s : State) (i : Instr) : s.DrawsAfter 1 (s.after i).advanceInputs where
  inputs := by rw [State.advanceInputs_inputs, s.after_inputs, List.drop_one]
  stepNo := by rw [State.advanceInputs_stepNo, s.after_stepNo]

theorem run_trans (h : run j s = .next t) (h' : run k t = .next u) : run (j + k) s = .next u :=
  (run_add h k).trans h'

end

/-! ### The parts of the microprogram (R75) -/

theorem holdsAt.append_right {rom : List Microword} {a : Nat} {p q : List Instr} (h : holdsAt rom a (p ++ q)) :
    holdsAt rom (a + p.length) q := by
  obtain ⟨hfits, hwords⟩ := h
  rw [List.length_append] at hfits hwords
  refine ⟨by omega, fun k hk => ?_⟩
  rw [Nat.add_assoc, hwords _ (by omega), List.getElem?_append_right (Nat.le_add_right _ _), Nat.add_sub_cancel_left]

theorem holdsAt.append_left {rom : List Microword} {a : Nat} {p q : List Instr} (h : holdsAt rom a (p ++ q)) :
    holdsAt rom a p := by
  obtain ⟨hfits, hwords⟩ := h
  rw [List.length_append] at hfits hwords
  refine ⟨by omega, fun k hk => ?_⟩
  rw [hwords _ (by omega), List.getElem?_append_left hk]

/-- The operation that gives the control line a level. -/
def ctlOp : CtlLine → Instr
  | .rel => .cavrel
  | .high => .cavasr

/-- MEASREL and MEASASR: one measurement with the control line at the level `v`. -/
def measOps (v : CtlLine) : List Instr := [ctlOp v, .settle] ++ digitizeOps

theorem measRelOps_eq : measRelOps = measOps .rel := rfl

theorem measAsrOps_eq : measAsrOps = measOps .high := rfl

theorem microprogram_holdsAt_cycleOps : holdsAt microprogram 0 cycleOps := by
  refine ⟨cycleOps_length.le, fun k _ => ?_⟩
  rw [microprogram_eq_map_encode, Nat.zero_add, List.getElem?_map]

/-- Table R66: where the parts of CYCLE stand. -/
theorem microprogram_parts :
    holdsAt microprogram 0 scanOps ∧ holdsAt microprogram 16 measRelOps ∧ holdsAt microprogram 22 [.classify] ∧
    holdsAt microprogram 23 measAsrOps ∧ holdsAt microprogram 29 scanOps ∧ holdsAt microprogram 45 [.report] := by
  have h : holdsAt microprogram 0 cycleOps := microprogram_holdsAt_cycleOps
  have before45 := h.append_left
  have before29 := before45.append_left
  have before23 := before29.append_left
  have before22 := before23.append_left
  exact ⟨before22.append_left, before22.append_right, before23.append_right, before29.append_right,
    before45.append_right, h.append_right⟩

/-! ### The effects of the parts -/

/-- The state after a scan (R109, R110). -/
def State.scanned (s : State) : State :=
  { s with
    row := #v[(s.drawAt 3).col, (s.drawAt 7).col, (s.drawAt 11).col, (s.drawAt 15).col]
    rowl := #v[.rel, .rel, .rel, .low]
    upc := s.upc + 16, cyc := s.cyc + 12 * s.cfg.opCycles + 4 * s.cfg.dwellCycles
    inputs := s.inputs.drop 16, stepNo := s.stepNo + 16 }

/-- The state after a measurement with the control line at the level `v` (R122 to R124, R97). -/
def State.measured (s : State) (v : CtlLine) : State :=
  { s with
    axis := #v[sampleAfterPass (s.axis.get xAxis) (s.polls xAxis 4),
      sampleAfterPass (s.axis.get yAxis) (s.polls yAxis 4)]
    tick := 228, cap := #v[.low, .low], cav := v, upc := s.upc + 6
    cyc := s.cyc + 4 * s.cfg.opCycles + s.cfg.settleCycles + 228 * s.cfg.tickCycles
    inputs := s.inputs.drop 233, stepNo := s.stepNo + 233 }

/-- The state after the first two steps of a measurement. -/
def State.settled (s : State) (v : CtlLine) : State :=
  { s with
    cav := v, upc := s.upc + 2, cyc := s.cyc + s.cfg.opCycles + s.cfg.settleCycles
    inputs := s.inputs.drop 2, stepNo := s.stepNo + 2 }

@[simp] theorem State.scanned_upc (s : State) : s.scanned.upc = s.upc + 16 := rfl
@[simp] theorem State.scanned_cls (s : State) : s.scanned.cls = s.cls := rfl
@[simp] theorem State.scanned_cyc (s : State) :
    s.scanned.cyc = s.cyc + 12 * s.cfg.opCycles + 4 * s.cfg.dwellCycles := rfl
@[simp] theorem State.scanned_out (s : State) : s.scanned.out = s.out := rfl
@[simp] theorem State.scanned_rom (s : State) : s.scanned.rom = s.rom := rfl
@[simp] theorem State.scanned_cfg (s : State) : s.scanned.cfg = s.cfg := rfl

@[simp] theorem State.measured_upc (s : State) (v : CtlLine) : (s.measured v).upc = s.upc + 6 := rfl
@[simp] theorem State.measured_cls (s : State) (v : CtlLine) : (s.measured v).cls = s.cls := rfl
@[simp] theorem State.measured_cyc (s : State) (v : CtlLine) : (s.measured v).cyc =
    s.cyc + 4 * s.cfg.opCycles + s.cfg.settleCycles + 228 * s.cfg.tickCycles := rfl
@[simp] theorem State.measured_out (s : State) (v : CtlLine) : (s.measured v).out = s.out := rfl
@[simp] theorem State.measured_rom (s : State) (v : CtlLine) : (s.measured v).rom = s.rom := rfl
@[simp] theorem State.measured_cfg (s : State) (v : CtlLine) : (s.measured v).cfg = s.cfg := rfl

theorem State.drawsAfter_scanned (s : State) : s.DrawsAfter 16 s.scanned := ⟨rfl, rfl⟩

theorem State.drawsAfter_measured (s : State) (v : CtlLine) : s.DrawsAfter 233 (s.measured v) := ⟨rfl, rfl⟩

theorem State.drawsAfter_settled (s : State) (v : CtlLine) : s.DrawsAfter 2 (s.settled v) := ⟨rfl, rfl⟩

section
variable {s : State} {v : CtlLine}

theorem run_scanned (h : holdsAt s.rom s.upc.toNat scanOps) (hrel : ∀ r, r ≠ 3 → s.rowl.get r = .rel)
    (hr : NoReset 16 s) : run 16 s = .next s.scanned := scanEffect s h hrel hr

theorem State.accepts_ctlOp : s.Accepts (ctlOp v) := by cases v <;> trivial

theorem State.after_ctlOp : s.after (ctlOp v) = (s.setCav v).fallThrough s.cfg.opCycles := by cases v <;> rfl

theorem State.after_ctlOp_settle :
    ((s.after (ctlOp v)).advanceInputs.after .settle).advanceInputs = s.settled v := by
  have hupc : s.upc + 2 = s.upc + 1 + 1 := by bv_omega
  have hinputs : s.inputs.drop 2 = s.inputs.tail.tail := by simp only [← List.drop_one, List.drop_drop]
  rw [State.settled, hupc, hinputs, State.after_ctlOp]
  rfl

theorem run_settled (h : holdsAt s.rom s.upc.toNat (measOps v)) (hr : NoReset 2 s) :
    run 2 s = .next (s.settled v) := by
  have hfits : s.upc.toNat + 6 ≤ 46 := h.1
  have hctl : step s = .next (s.after (ctlOp v)).advanceInputs :=
    h.step_eq (k := 0) rfl rfl rfl (by rw [s.draw_eq_drawAt, hr 0 (by decide)]) State.accepts_ctlOp
  have hupc : (s.after (ctlOp v)).advanceInputs.upc = s.upc + 1 := by rw [State.after_ctlOp]; rfl
  have hsettle : step (s.after (ctlOp v)).advanceInputs = .next (s.settled v) :=
    State.after_ctlOp_settle ▸ h.step_eq (k := 1) rfl (s.after_rom _) (by rw [hupc, upc_succ_toNat (by omega)])
      (by rw [s.after_advanceInputs_draw, hr 1 (by decide)]) trivial
  exact run_succ_of_step (run_succ hctl 0) hsettle

theorem run_measured (h : holdsAt s.rom s.upc.toNat (measOps v)) (hr : NoReset 233 s) :
    run 233 s = .next (s.measured v) := by
  have hfits : s.upc.toNat + 6 ≤ 46 := h.1
  have hsettled : run 2 s = .next (s.settled v) := run_settled h fun k hk => hr k (by omega)
  have hdraws := s.drawsAfter_settled v
  have hpolls (a : AxisIdx) : (s.settled v).polls a 2 = s.polls a 4 := hdraws.polls a 2
  have hupc : (s.settled v).upc.toNat = s.upc.toNat + 2 := by
    rw [State.settled]
    bv_omega
  have hdigitize : holdsAt (s.settled v).rom (s.settled v).upc.toNat digitizeOps := by
    rw [hupc]
    exact h.append_right
  have hend : s.upc + 6 = s.upc + 2 + 4 := by bv_omega
  have hcyc : s.cyc + 4 * s.cfg.opCycles + s.cfg.settleCycles =
      s.cyc + s.cfg.opCycles + s.cfg.settleCycles + 3 * s.cfg.opCycles := by omega
  have hinputs : s.inputs.drop 233 = (s.inputs.drop 2).drop 231 := by rw [List.drop_drop]
  refine (run_add hsettled 231).trans ((digitizerRunEffect _ hdigitize (hdraws.noReset hr (by decide))).trans ?_)
  rw [hpolls, hpolls, State.measured, hend, hcyc, hinputs]
  rfl

/-- One operation that takes one step. -/
theorem run_op {i : Instr} (h : holdsAt s.rom s.upc.toNat [i]) (hr : NoReset 1 s) (hacc : s.Accepts i) :
    run 1 s = .next (s.after i).advanceInputs :=
  run_succ (h.step_eq (k := 0) rfl rfl rfl (by rw [s.draw_eq_drawAt, hr 0 (by decide)]) hacc) 0

end

/-! ### The cycle -/

/-- The state after the first scan, the released-phase measurement and CLASSIFY. -/
def State.classified (s : State) : State := ((s.scanned.measured .rel).after .classify).advanceInputs

/-- The state after the asserted-phase measurement and the second scan too. -/
def State.rescanned (s : State) : State := (s.classified.measured .high).scanned

/-- The state after the whole cycle. -/
def State.cycled (s : State) : State := (s.rescanned.after .report).advanceInputs

@[simp] theorem State.classified_upc (s : State) : s.classified.upc = s.upc + 23 := by
  calc s.classified.upc
      = s.upc + 16 + 6 + 1 := rfl
    _ = s.upc + 23 := by bv_omega

@[simp] theorem State.classified_out (s : State) : s.classified.out = s.out ++ [.tag s.classified.cls] := rfl

@[simp] theorem State.classified_rom (s : State) : s.classified.rom = s.rom := by simp [State.classified]

@[simp] theorem State.classified_cfg (s : State) : s.classified.cfg = s.cfg := by simp [State.classified]

theorem State.drawsAfter_classified (s : State) : s.DrawsAfter 250 s.classified :=
  (s.drawsAfter_scanned.trans (State.drawsAfter_measured _ _)).trans (State.drawsAfter_after _ _)

@[simp] theorem State.rescanned_upc (s : State) : s.rescanned.upc = s.upc + 45 := by
  calc s.rescanned.upc
      = s.classified.upc + 6 + 16 := rfl
    _ = s.upc + 45 := by rw [s.classified_upc]; bv_omega

@[simp] theorem State.rescanned_cls (s : State) : s.rescanned.cls = s.classified.cls := by simp [State.rescanned]

@[simp] theorem State.rescanned_rom (s : State) : s.rescanned.rom = s.rom := by simp [State.rescanned]

@[simp] theorem State.rescanned_cfg (s : State) : s.rescanned.cfg = s.cfg := by simp [State.rescanned]

theorem State.drawsAfter_remeasured (s : State) : s.DrawsAfter 483 (s.classified.measured .high) :=
  s.drawsAfter_classified.trans (State.drawsAfter_measured _ _)

theorem State.drawsAfter_rescanned (s : State) : s.DrawsAfter 499 s.rescanned :=
  s.drawsAfter_remeasured.trans (State.drawsAfter_scanned _)

theorem State.drawsAfter_cycled (s : State) : s.DrawsAfter 500 s.cycled :=
  s.drawsAfter_rescanned.trans (State.drawsAfter_after _ _)

/-- A part of the microprogram stands at `UPC`. -/
theorem holdsAt_of_upc {s : State} {p : List Instr} (u : Upc) (hrom : s.rom = microprogram) (hu : s.upc = u)
    (h : holdsAt microprogram u.toNat p) : holdsAt s.rom s.upc.toNat p := by
  rw [hrom, hu]
  exact h

section
variable {s : State} (hrom : s.rom = microprogram) (hu : s.upc = 0) (hrel : ∀ r, r ≠ 3 → s.rowl.get r = .rel)
  (hr : NoReset 500 s)

include hrom hu hrel hr

theorem run_classified : run 250 s = .next s.classified := by
  obtain ⟨hscan, hmeas, hclass, -⟩ := microprogram_parts
  have hscanned : run 16 s = .next s.scanned :=
    run_scanned (holdsAt_of_upc 0 hrom hu hscan) hrel fun k hk => hr k (by omega)
  have h16 : s.scanned.upc = 16 := congrArg (· + 16) hu
  have hmeasured : run 249 s = .next (s.scanned.measured .rel) := run_trans hscanned <|
    run_measured (holdsAt_of_upc 16 hrom h16 (measRelOps_eq ▸ hmeas)) (s.drawsAfter_scanned.noReset hr (by decide))
  have hdraws := s.drawsAfter_scanned.trans (State.drawsAfter_measured _ .rel)
  have h22 : (s.scanned.measured .rel).upc = 22 := congrArg (· + 6) h16
  exact run_trans hmeasured <|
    run_op (holdsAt_of_upc 22 hrom h22 hclass) (hdraws.noReset hr (by decide)) trivial

theorem run_rescanned : run 499 s = .next s.rescanned := by
  obtain ⟨-, -, -, hmeas, hscan, -⟩ := microprogram_parts
  have hclassified := run_classified hrom hu hrel hr
  have h23 : s.classified.upc = 23 := s.classified_upc.trans (congrArg (· + 23) hu)
  have hmeasured : run 483 s = .next (s.classified.measured .high) := run_trans hclassified <|
    run_measured (holdsAt_of_upc 23 (s.classified_rom.trans hrom) h23 (measAsrOps_eq ▸ hmeas))
      (s.drawsAfter_classified.noReset hr (by decide))
  have h29 : (s.classified.measured .high).upc = 29 := congrArg (· + 6) h23
  have hreleased : ∀ r, r ≠ 3 → (s.classified.measured .high).rowl.get r = .rel :=
    show ∀ r : RowIdx, r ≠ 3 → (#v[.rel, .rel, .rel, .low] : PerRow PullLine).get r = .rel by decide
  exact run_trans hmeasured <|
    run_scanned (holdsAt_of_upc 29 (s.classified_rom.trans hrom) h29 hscan) hreleased
      (s.drawsAfter_remeasured.noReset hr (by decide))

theorem run_cycled : run 500 s = .next s.cycled := by
  obtain ⟨-, -, -, -, -, hreport⟩ := microprogram_parts
  have hrescanned := run_rescanned hrom hu hrel hr
  have h45 : s.rescanned.upc = 45 := s.rescanned_upc.trans (congrArg (· + 45) hu)
  exact run_trans hrescanned <|
    run_op (holdsAt_of_upc 45 (s.rescanned_rom.trans hrom) h45 hreport)
      (s.drawsAfter_rescanned.noReset hr (by decide)) trivial

end

/-! ### What the cycle leaves -/

/-- The sample of an axis after the released-phase pass, stale where no poll tripped (R93, R94). -/
def State.releasedSample (s : State) (a : AxisIdx) : Sample := sampleAfterPass (s.axis.get a) (s.polls a 20)

/-- The sample of an axis after the asserted-phase pass; a stale one is the released phase's. -/
def State.assertedSample (s : State) (a : AxisIdx) : Sample := sampleAfterPass (s.releasedSample a) (s.polls a 254)

theorem State.classified_axis (s : State) :
    s.classified.axis = #v[s.releasedSample xAxis, s.releasedSample yAxis] := by
  have hpolls (a : AxisIdx) : s.scanned.polls a 4 = s.polls a 20 := s.drawsAfter_scanned.polls a 4
  calc s.classified.axis
      = #v[sampleAfterPass (s.axis.get xAxis) (s.scanned.polls xAxis 4),
          sampleAfterPass (s.axis.get yAxis) (s.scanned.polls yAxis 4)] := rfl
    _ = #v[s.releasedSample xAxis, s.releasedSample yAxis] := by rw [hpolls, hpolls]; rfl

/-- R125: CLASSIFY leaves the samples alone, so its class is that of the samples it leaves. -/
theorem State.classified_cls (s : State) :
    s.classified.cls = classOf #v[s.releasedSample xAxis, s.releasedSample yAxis] :=
  congrArg classOf s.classified_axis

theorem State.rescanned_axis (s : State) :
    s.rescanned.axis = #v[s.assertedSample xAxis, s.assertedSample yAxis] := by
  have hpolls (a : AxisIdx) : s.classified.polls a 4 = s.polls a 254 := s.drawsAfter_classified.polls a 4
  calc s.rescanned.axis
      = #v[sampleAfterPass (s.classified.axis.get xAxis) (s.classified.polls xAxis 4),
          sampleAfterPass (s.classified.axis.get yAxis) (s.classified.polls yAxis 4)] := rfl
    _ = #v[s.assertedSample xAxis, s.assertedSample yAxis] := by rw [s.classified_axis, hpolls, hpolls]; rfl

theorem State.rescanned_row (s : State) : s.rescanned.row =
    #v[(s.drawAt 486).col, (s.drawAt 490).col, (s.drawAt 494).col, (s.drawAt 498).col] := by
  have hdraws := s.drawsAfter_remeasured.drawAt
  calc s.rescanned.row
      = #v[((s.classified.measured .high).drawAt 3).col, ((s.classified.measured .high).drawAt 7).col,
          ((s.classified.measured .high).drawAt 11).col, ((s.classified.measured .high).drawAt 15).col] := rfl
    _ = #v[(s.drawAt 486).col, (s.drawAt 490).col, (s.drawAt 494).col, (s.drawAt 498).col] := by
        rw [hdraws, hdraws, hdraws, hdraws]

/-- R99, R111, R163: the lines at rest before REPORT. -/
theorem State.rescanned_lines (s : State) : s.rescanned.cap = #v[.low, .low] ∧
    s.rescanned.rowl = #v[.rel, .rel, .rel, .low] ∧ s.rescanned.cav = .high := ⟨rfl, rfl, rfl⟩

theorem State.rescanned_tick (s : State) : s.rescanned.tick = 228 := rfl

/-- R127, R130: the cycle's two events, the report with the tag's class. -/
theorem State.cycled_out (s : State) : s.cycled.out = s.out ++ [.tag s.classified.cls,
    .report (s.rescanned.reportOf s.rescanned.draw.topN s.rescanned.draw.botN)] := by
  have hreport : s.cycled.out =
      s.rescanned.out ++ [.report (s.rescanned.reportOf s.rescanned.draw.topN s.rescanned.draw.botN)] := rfl
  rw [hreport, State.rescanned, State.scanned_out, State.measured_out, s.classified_out, List.append_assoc]
  rfl

/-- R181: the clock cycles of the six parts. -/
theorem State.cycled_cyc (s : State) : s.cycled.cyc = s.cyc + cycleLength s.cfg := by
  have hclassified : s.classified.cyc = (s.scanned.measured .rel).cyc + s.cfg.classifyCycles := rfl
  have hcycled : s.cycled.cyc = s.rescanned.cyc + s.rescanned.cfg.reportCycles := rfl
  rw [hcycled, s.rescanned_cfg, State.rescanned]
  simp only [State.scanned_cyc, State.measured_cyc, State.scanned_cfg, State.measured_cfg, hclassified,
    s.classified_cfg, cycleLength]
  omega

/-- R111: at the start of a cycle no row but row 3 is driven. -/
theorem State.Inv.rows_released {s : State} (h : s.Inv) (hu : s.upc = 0) : ∀ r, r ≠ 3 → s.rowl.get r = .rel := by
  have hstart : ∀ first : Bool, ∀ r : RowIdx, r ≠ 3 → (rowLatches (drivenRow first 0)).get r = .rel := by decide
  have hrowl : s.rowl = rowLatches (drivenRow s.firstCycle 0) := by rw [h.rowl, hu]; rfl
  rw [hrowl]
  exact hstart _

/-- Settles O53: the cycle is a run of the six parts of the microprogram, and its effect is read off `State.cycled`. -/
theorem oneCycleEffect : Obligations.OneCycleEffect := by
  unfold Obligations.OneCycleEffect
  intro s h hu hr
  refine ⟨s.releasedSample xAxis, s.releasedSample yAxis, s.assertedSample xAxis, s.assertedSample yAxis,
    classOf #v[s.releasedSample xAxis, s.releasedSample yAxis], rfl, rfl, rfl, rfl, classOf_joystick_iff_xy _, ?_⟩
  calc run 500 s
      = .next s.cycled := run_cycled h.rom hu (h.rows_released hu) hr
    _ = .next { s with
        upc := 0, tick := s.rescanned.tick, axis := s.rescanned.axis, row := s.rescanned.row, cls := s.rescanned.cls
        topl := s.rescanned.draw.topN, botl := s.rescanned.draw.botN
        cap := s.rescanned.cap, rowl := s.rescanned.rowl, cav := s.rescanned.cav
        cyc := s.cycled.cyc, out := s.cycled.out, rom := s.rescanned.rom, cfg := s.rescanned.cfg
        inputs := s.cycled.inputs, stepNo := s.cycled.stepNo } := rfl
    _ = _ := by
      obtain ⟨hcap, hrowl, hcav⟩ := s.rescanned_lines
      rw [s.cycled_cyc, s.cycled_out, s.drawsAfter_cycled.inputs, s.drawsAfter_cycled.stepNo, State.reportOf,
        s.rescanned_tick, s.rescanned_cls, s.classified_cls, s.rescanned_axis, s.rescanned_row, hcap, hrowl, hcav,
        s.rescanned_rom, s.rescanned_cfg, s.drawsAfter_rescanned.draw]
      rfl

end Sys2Proof.Machine
end

section
/-! Completion and simultaneity (60_exceptions.md R140, R141, R144): the operations that are refused are those whose
guard fails, and of the inputs of one step none takes precedence over another. -/

namespace Sys2Proof.Machine

/-- Settles O12: where the guard holds the operation completes; only TBRUN and ROWDRV have a guard that can fail, and
what fails there is the named situation. -/
theorem operationsCompleteOrRefuseByName : Obligations.OperationsCompleteOrRefuseByName := by
  unfold Obligations.OperationsCompleteOrRefuseByName
  intro i s
  by_cases hacc : s.Accepts i
  · exact .inl ⟨s.after i, (exec_eq_next_iff i s _).mpr ⟨hacc, rfl⟩⟩
  · right
    cases i with
    | tbrun =>
      have htick : 228 ≤ s.tick.toNat := Nat.le_of_not_lt hacc
      exact .inl ⟨rfl, htick, exec_tbrun_of_ge htick⟩
    | rowdrv r =>
      obtain ⟨q, hq, hlow⟩ : ∃ q, q ≠ r ∧ s.rowl.get q = .low := by simpa [State.Accepts] using hacc
      exact .inr ⟨r, q, rfl, hq, hlow, exec_rowdrv_of_otherRow hq hlow⟩
    | _ => exact absurd trivial hacc

/-- Settles O35: the captures are made axis by axis, COLSMP stores the columns whole, and REPORT latches both levels. -/
theorem simultaneousInputsAllCount : Obligations.SimultaneousInputsAllCount := by
  unfold Obligations.SimultaneousInputsAllCount
  obtain ⟨hcapture, -⟩ := captureLatch
  obtain ⟨-, hreport, -⟩ := reportHandsOverAndRestarts
  refine ⟨fun s hs htrip => ?_, fun r s => ?_, fun s htop hbot => ⟨_, hreport s, htop, hbot⟩⟩
  · obtain ⟨t, hexec, haxis⟩ := hcapture s hs
    exact ⟨t, hexec, (haxis xAxis).1 (htrip xAxis), (haxis yAxis).1 (htrip yAxis)⟩
  · obtain ⟨-, t, hexec, hrow, -⟩ := colsmpStoresColumnsAsRead r s
    exact ⟨t, hexec, fun c => by rw [hrow]⟩

end Sys2Proof.Machine
end

section
/-! Reset (60_exceptions.md R145; 70_reset_and_hazards.md R160). -/

namespace Sys2Proof.Machine

/-- Settles O8: a step asks for the reset before it fetches, and `State.takeReset` is Table R32. -/
theorem resetOverridesEverything : Obligations.ResetOverridesEverything := by
  unfold Obligations.ResetOverridesEverything
  exact fun s hr => (step_eq_next_iff s _).mpr (.inl ⟨hr, rfl⟩)

end Sys2Proof.Machine
end

section
/-! Durations and the clock (70_reset_and_hazards.md R170, R175, R180, R181): what every operation adds to `CYC`, the
clock schedule of the fixed microprogram, and how long the capacitor lines are low before a release. -/

namespace Sys2Proof.Machine

/-! ### The clock cycles of an operation (Table R180) -/

theorem State.after_cyc (s : State) (i : Instr) : (s.after i).cyc = s.cyc + stepCycles s.cfg i := by
  cases i <;> rfl

/-- Only TBRUN takes more than one step. -/
theorem opSteps_eq_one {i : Instr} (hb : i ≠ .tbrun) : opSteps i = 1 := by
  cases i with
  | tbrun => exact absurd rfl hb
  | _ => rfl

/-! ### Timing does not depend on data (R170) -/

/-- Two states agree in what decides how long a run takes and where it goes. -/
structure State.SameTiming (s s' : State) : Prop where
  rom : s.rom = s'.rom
  cfg : s.cfg = s'.cfg
  upc : s.upc = s'.upc
  tick : s.tick = s'.tick
  cyc : s.cyc = s'.cyc

section
variable {s s' t t' : State}

theorem State.after_tick_congr (h : s.tick = s'.tick) (i : Instr) : (s.after i).tick = (s'.after i).tick := by
  cases i with
  | tbrst => rfl
  | tbrun => exact congrArg (· + 1) h
  | _ => exact h

theorem State.SameTiming.after (h : s.SameTiming s') (i : Instr) : (s.after i).SameTiming (s'.after i) where
  rom := by rw [s.after_rom, s'.after_rom, h.rom]
  cfg := by rw [s.after_cfg, s'.after_cfg, h.cfg]
  upc := State.after_upc_congr h.upc h.tick i
  tick := State.after_tick_congr h.tick i
  cyc := by rw [s.after_cyc, s'.after_cyc, h.cyc, h.cfg]

/-- The timing of a state does not speak of the draws. -/
theorem State.SameTiming.advanceInputs (h : s.SameTiming s') : s.advanceInputs.SameTiming s'.advanceInputs :=
  ⟨h.rom, h.cfg, h.upc, h.tick, h.cyc⟩

/-- A step without reset that completes is an operation the fetch answers, and one step's draws. -/
theorem exists_after_of_step (hr : s.draw.rst = false) (h : step s = .next t) :
    ∃ i, s.fetch = .ok i ∧ t = (s.after i).advanceInputs := by
  rcases (step_eq_next_iff s t).mp h with ⟨hr', -⟩ | ⟨-, i, u, hf, hx, rfl⟩
  · rw [hr] at hr'
    cases hr'
  · exact ⟨i, hf, by rw [State.after_eq_of_exec hx]⟩

/-- Both steps fetch the same operation, since the ROM and `UPC` are the same. -/
theorem State.SameTiming.step (h : s.SameTiming s') (hr : s.draw.rst = false) (hr' : s'.draw.rst = false)
    (hs : step s = .next t) (hs' : step s' = .next t') : t.SameTiming t' := by
  obtain ⟨i, hf, rfl⟩ := exists_after_of_step hr hs
  obtain ⟨i', hf', rfl⟩ := exists_after_of_step hr' hs'
  rw [State.fetch_congr h.upc h.rom, hf'] at hf
  cases hf
  exact (h.after _).advanceInputs

/-- A run of a step and more that completes: its first step and the run that follows. -/
theorem exists_step_of_run_succ {n : Nat} (h : run (n + 1) s = .next t) :
    ∃ u, step s = .next u ∧ run n u = .next t := by
  rw [run_succ_eq] at h
  cases hst : step s with
  | next u => rw [hst] at h; exact ⟨u, rfl, h⟩
  | fault e => rw [hst] at h; cases h
  | refused e => rw [hst] at h; cases h

/-- The draws move up by one in every step, reset or not. -/
theorem drawsAfter_step (h : step s = .next t) : s.DrawsAfter 1 t := by
  rcases (step_eq_next_iff s t).mp h with ⟨-, rfl⟩ | ⟨-, i, u, -, hx, rfl⟩
  · exact ⟨List.drop_one.symm, rfl⟩
  · rw [State.after_eq_of_exec hx]
    exact s.drawsAfter_after i

theorem State.SameTiming.run {n : Nat} (h : s.SameTiming s') (hr : NoReset n s) (hr' : NoReset n s')
    (hs : run n s = .next t) (hs' : run n s' = .next t') : t.SameTiming t' := by
  induction n generalizing s s' with
  | zero =>
    cases hs
    cases hs'
    exact h
  | succ n ih =>
    obtain ⟨u, hu, hrun⟩ := exists_step_of_run_succ hs
    obtain ⟨u', hu', hrun'⟩ := exists_step_of_run_succ hs'
    have hrst : s.draw.rst = false := by rw [s.draw_eq_drawAt, hr 0 (by omega)]
    have hrst' : s'.draw.rst = false := by rw [s'.draw_eq_drawAt, hr' 0 (by omega)]
    exact ih (h.step hrst hrst' hu hu') ((drawsAfter_step hu).noReset hr (by omega))
      ((drawsAfter_step hu').noReset hr' (by omega)) hrun hrun'

end

/-- Settles O49: to agree in ROM, parameters, `UPC`, `TICK` and `CYC` is kept by every step without reset. -/
theorem timingIndependentOfData : Obligations.TimingIndependentOfData := by
  unfold Obligations.TimingIndependentOfData
  intro n s s' t t' hrom hcfg hupc htick hcyc hr hr' hs hs'
  have h := State.SameTiming.run ⟨hrom, hcfg, hupc, htick, hcyc⟩ hr hr' hs hs'
  exact ⟨h.cyc, h.upc, h.tick⟩

/-! ### The sums of Table R180 -/

theorem seqCycles_append (c : OpenParams) (p q : List Instr) :
    seqCycles c (p ++ q) = seqCycles c p + seqCycles c q := by
  simp [seqCycles]

theorem seqCycles_scanRowOps (c : OpenParams) (r : RowIdx) :
    seqCycles c (scanRowOps r) = 3 * c.opCycles + c.dwellCycles := by
  simp +arith [seqCycles, scanRowOps, stepCycles, opSteps]

theorem seqCycles_passOps (c : OpenParams) : seqCycles c passOps = c.opCycles + 228 * c.tickCycles := by
  simp [seqCycles, passOps, stepCycles, opSteps]

theorem seqCycles_digitizeOps (c : OpenParams) :
    seqCycles c digitizeOps = 3 * c.opCycles + 228 * c.tickCycles := by
  simp +arith [seqCycles, digitizeOps, passOps, stepCycles, opSteps]

theorem seqCycles_ctlOp_settle (c : OpenParams) (v : CtlLine) :
    seqCycles c [ctlOp v, .settle] = c.opCycles + c.settleCycles := by
  cases v <;> simp [seqCycles, ctlOp, stepCycles, opSteps]

theorem seqCycles_measOps (c : OpenParams) (v : CtlLine) :
    seqCycles c (measOps v) = 4 * c.opCycles + c.settleCycles + 228 * c.tickCycles := by
  rw [measOps, seqCycles_append, seqCycles_digitizeOps, seqCycles_ctlOp_settle]
  omega

theorem seqCycles_classify (c : OpenParams) : seqCycles c [.classify] = c.classifyCycles := by
  simp [seqCycles, stepCycles, opSteps]

theorem seqCycles_report (c : OpenParams) : seqCycles c [.report] = c.reportCycles := by
  simp [seqCycles, stepCycles, opSteps]

/-- R181: the length of one outer cycle is the sum over its operations. -/
theorem seqCycles_cycleOps (c : OpenParams) : seqCycles c cycleOps = cycleLength c := by
  simp only [cycleOps, seqCycles_append, seqCycles_scanOps, measRelOps_eq, measAsrOps_eq, seqCycles_measOps,
    seqCycles_classify, seqCycles_report, cycleLength]
  omega

/-- Settles O39: the clock after an operation has the one lemma `State.after_cyc`, which names no data; the sums are
added up part by part. -/
theorem durationsAreTheTables : Obligations.DurationsAreTheTables := by
  unfold Obligations.DurationsAreTheTables
  refine ⟨fun i s t hx => ?_, fun c r => ?_, rfl, ?_⟩
  · rw [State.after_eq_of_exec hx, s.after_cyc]
  · exact ⟨rfl, rfl, rfl, rfl, rfl, rfl, rfl, rfl, rfl, rfl, rfl, rfl, rfl, seqCycles_scanRowOps c r,
      seqCycles_scanOps c, seqCycles_passOps c, seqCycles_digitizeOps c, seqCycles_measOps c .rel,
      seqCycles_measOps c .high, seqCycles_cycleOps c⟩
  · rw [State.reset_cfg, defaultParams_eq]
    rfl

/-! ### The clock schedule (R181) -/

theorem startCycles_succ (c : OpenParams) {u : Nat} {i : Instr} (hi : cycleOps[u]? = some i) :
    startCycles c (u + 1) = startCycles c u + opSteps i * stepCycles c i := seqCycles_take_succ c hi

theorem startCycles_zero (c : OpenParams) : startCycles c 0 = 0 := rfl

/-- R181: REPORT, at address 45, ends the cycle. -/
theorem startCycles_report (c : OpenParams) : startCycles c 45 + c.reportCycles = cycleLength c := by
  have hsplit : cycleOps = cycleOps.take 45 ++ [.report] := by decide
  calc startCycles c 45 + c.reportCycles
      = seqCycles c (cycleOps.take 45 ++ [.report]) := by rw [seqCycles_append, seqCycles_report, startCycles]
    _ = cycleLength c := by rw [← hsplit, seqCycles_cycleOps]

theorem State.reports_after (s : State) {i : Instr} (hr : i ≠ .report) :
    reports (s.after i).out = reports s.out := by
  by_cases hc : i = .classify
  · subst hc
    exact reports_append s.out [.tag (classOf s.axis)]
  · rw [s.after_out hc hr]

theorem State.reports_after_report (s : State) : reports (s.after .report).out = reports s.out + 1 :=
  reports_append s.out [.report (s.reportOf s.draw.topN s.draw.botN)]

section
variable {s : State} {i : Instr}

/-- On to the next address: a pass ends with all its ticks counted, and one begins with none. -/
theorem State.OnSchedule.next (h : s.OnSchedule) (hu : s.upc.toNat < 45) (hi : cycleOps[s.upc.toNat]? = some i)
    (hr : i ≠ .report) (hlast : i = .tbrun → s.tick.toNat = 227)
    (hnext : (s.after i).upc.toNat = s.upc.toNat + 1) : (s.after i).OnSchedule := by
  have hb := cycleOps_eq_tbrun_iff s.upc.toNat (by omega)
  have hs := cycleOps_eq_tbrst_iff s.upc.toNat (by omega)
  simp only [hi, Option.some.injEq] at hb hs
  unfold State.OnSchedule at h ⊢
  rw [s.after_cyc, s.reports_after hr, s.after_cfg, hnext, startCycles_succ s.cfg hi, h]
  by_cases hib : i = .tbrun
  · have hpass := hb.mp hib
    rw [if_pos hpass, if_neg (by omega), hlast hib, hib]
    simp only [opSteps, stepCycles]
    omega
  · rw [opSteps_eq_one hib, if_neg (by rwa [← hb])]
    by_cases his : i = .tbrst
    · have htick : (s.after i).tick.toNat = 0 := by rw [his]; rfl
      simp only [htick, Nat.zero_mul, ite_self]
      omega
    · rw [hs] at his
      rw [if_neg (by omega)]
      omega

/-- Another tick at the same address. -/
theorem State.OnSchedule.tick (h : s.OnSchedule) (hpass : s.upc.toNat = 20 ∨ s.upc.toNat = 27)
    (ht : s.tick.toNat < 227) (hstay : (s.after .tbrun).upc = s.upc) : (s.after .tbrun).OnSchedule := by
  unfold State.OnSchedule at h ⊢
  rw [s.after_cyc, s.reports_after (by simp), s.after_cfg, hstay, State.after_tbrun_tick_toNat (by omega), h,
    if_pos hpass, if_pos hpass, Nat.succ_mul]
  simp only [stepCycles]
  omega

/-- Back to address 0, one cycle further. -/
theorem State.OnSchedule.restart (h : s.OnSchedule) (h45 : s.upc.toNat = 45) : (s.after .report).OnSchedule := by
  have hupc : (s.after .report).upc.toNat = 0 := rfl
  have hlength := startCycles_report s.cfg
  unfold State.OnSchedule at h ⊢
  rw [h45, if_neg (by decide)] at h
  rw [s.after_cyc, s.reports_after_report, s.after_cfg, hupc, startCycles_zero, if_neg (by decide), h, Nat.succ_mul]
  simp only [stepCycles]
  omega

/-- The schedule does not speak of the draws. -/
theorem State.OnSchedule.advanceInputs (h : s.OnSchedule) : s.advanceInputs.OnSchedule := h

end

/-- Settles O48: after a reset no cycle has passed; else the operation at `UPC` makes one of the three control
transfers, and each of them keeps the schedule. -/
theorem stepKeepsTheClockSchedule : Obligations.StepKeepsTheClockSchedule := by
  unfold Obligations.StepKeepsTheClockSchedule
  intro s t hinv h hstep
  cases hr : s.draw.rst with
  | true =>
    cases hstep.symm.trans ((step_eq_next_iff _ _).mpr (.inl ⟨hr, rfl⟩))
    rw [State.takeReset_eq_bootState hinv.rom]
    exact bootState_onSchedule _ _ _
  | false =>
    obtain ⟨i, hi, hnext⟩ := hinv.step_eq hr
    cases hstep.symm.trans hnext
    refine State.OnSchedule.advanceInputs ?_
    rcases hinv.control hi with ⟨hlt, hir, hlast, hup⟩ | ⟨rfl, hpass, ht, hstay⟩ | ⟨rfl, h45, -⟩
    · exact h.next hlt hi hir hlast hup
    · exact h.tick hpass ht hstay
    · exact h.restart h45

/-! ### How long the capacitor lines are low (R175) -/

/-- The state `t` is `n` words of the microprogram further on than `s`, `n` steps and the words' durations later. -/
structure State.WordsOn (s : State) (n : Nat) (t : State) : Prop where
  inv : t.Inv
  upc : t.upc.toNat = s.upc.toNat + n
  cfg : t.cfg = s.cfg
  draws : s.DrawsAfter n t
  cyc : t.cyc = s.cyc + seqCycles s.cfg ((cycleOps.drop s.upc.toNat).take n)

section
variable {s t : State} {n : Nat}

theorem State.Inv.wordsOn_zero (h : s.Inv) : s.WordsOn 0 s := ⟨h, rfl, rfl, ⟨rfl, rfl⟩, rfl⟩

/-- One word more, where it is neither a TBRUN nor the REPORT. -/
theorem State.WordsOn.step (h : s.WordsOn n t) (hr : t.draw.rst = false) (hlt : t.upc.toNat < 45)
    (hpass : t.upc.toNat ≠ 20 ∧ t.upc.toNat ≠ 27) : ∃ u, step t = .next u ∧ s.WordsOn (n + 1) u := by
  obtain ⟨i, hi, hstep⟩ := h.inv.step_eq hr
  have hb := cycleOps_eq_tbrun_iff t.upc.toNat (by omega)
  have hrep := cycleOps_eq_report_iff t.upc.toNat (by omega)
  simp only [hi, Option.some.injEq] at hb hrep
  have hib : i ≠ .tbrun := by rw [Ne, hb]; omega
  have hir : i ≠ .report := by rw [Ne, hrep]; omega
  have hword : (cycleOps.drop s.upc.toNat)[n]? = some i := by rw [List.getElem?_drop, ← h.upc, hi]
  refine ⟨_, hstep, (h.inv.after hi).advanceInputs, ?_, ?_, h.draws.trans (t.drawsAfter_after i), ?_⟩
  · rw [State.advanceInputs_upc, t.after_upc hib hir, upc_succ_toNat hlt.le, h.upc, Nat.add_assoc]
  · rw [State.advanceInputs_cfg, t.after_cfg, h.cfg]
  · rw [State.advanceInputs_cyc, t.after_cyc, h.cyc, h.cfg, seqCycles_take_succ s.cfg hword, opSteps_eq_one hib,
      Nat.one_mul, Nat.add_assoc]

/-- A stretch of the microprogram before its REPORT and without a TBRUN is run word by word. -/
theorem State.Inv.run_words (h : s.Inv) (hr : NoReset n s) (hend : s.upc.toNat + n ≤ 45)
    (hpass : ∀ k < n, s.upc.toNat + k ≠ 20 ∧ s.upc.toNat + k ≠ 27) : ∃ t, run n s = .next t ∧ s.WordsOn n t := by
  induction n with
  | zero => exact ⟨s, run_zero s, h.wordsOn_zero⟩
  | succ n ih =>
    obtain ⟨t, hrun, ht⟩ := ih (fun k hk => hr k (by omega)) (by omega) fun k hk => hpass k (by omega)
    have hrst : t.draw.rst = false := by rw [ht.draws.draw, hr n (by omega)]
    have hupc := ht.upc
    obtain ⟨u, hstep, hu⟩ := ht.step hrst (by omega) (hupc ▸ hpass n (by omega))
    exact ⟨u, run_succ_of_step hrun hstep, hu⟩

/-- R99: the capacitor lines are low at every address outside the two spans from a CAPREL to its CAPDIS. -/
theorem State.Inv.caps_low (h : s.Inv)
    (hu : ¬((19 ≤ s.upc.toNat ∧ s.upc.toNat ≤ 21) ∨ (26 ≤ s.upc.toNat ∧ s.upc.toNat ≤ 28))) :
    s.cap.get xAxis = .low ∧ s.cap.get yAxis = .low := by
  have hlow : capsAt s.upc.toNat = .low := if_neg hu
  exact ⟨(h.cap _).trans hlow, (h.cap _).trans hlow⟩

/-- The two CAPRELs of the microprogram. -/
theorem State.Inv.fetch_caprel (h : s.Inv) (hu : s.upc.toNat = 18 ∨ s.upc.toNat = 25) : s.fetch = .ok .caprel := by
  obtain ⟨i, hi, hf⟩ := s.fetch_of_microprogram h.rom h.upc
  have hcaprel : cycleOps[s.upc.toNat]? = some .caprel := by rcases hu with hu | hu <;> rw [hu] <;> rfl
  cases hi.symm.trans hcaprel
  exact hf

/-- The REPORT leads from address 45 to address 0. -/
theorem State.Inv.step_report (h : s.Inv) (hu : s.upc.toNat = 45) (hr : s.draw.rst = false) :
    step s = .next (s.after .report).advanceInputs ∧ (s.after .report).advanceInputs.Inv := by
  obtain ⟨i, hi, hstep⟩ := h.step_eq hr
  have hreport : i = .report := by
    rw [hu] at hi
    exact (Option.some.inj hi).symm
  subst hreport
  exact ⟨hstep, (h.after hi).advanceInputs⟩

/-- From just after the second CAPDIS: the second scan and the REPORT lead to the start of the next cycle. -/
theorem State.Inv.run_to_restart (h : s.Inv) (hu : s.upc.toNat = 29) (hr : NoReset 17 s) :
    ∃ t, run 17 s = .next t ∧ t.Inv ∧ t.upc.toNat = 0 ∧ t.cfg = s.cfg ∧ s.DrawsAfter 17 t ∧
      t.cyc = s.cyc + (12 * s.cfg.opCycles + 4 * s.cfg.dwellCycles + s.cfg.reportCycles) := by
  obtain ⟨t, hrun, ht⟩ := h.run_words (n := 16) (fun k hk => hr k (by omega)) (by omega) fun k hk => by omega
  have hrst : t.draw.rst = false := by rw [ht.draws.draw, hr 16 (by omega)]
  obtain ⟨hstep, hinv⟩ := ht.inv.step_report (by rw [ht.upc, hu]) hrst
  have hwords : (cycleOps.drop s.upc.toNat).take 16 = scanOps := by rw [hu]; decide
  refine ⟨_, run_succ_of_step hrun hstep, hinv, rfl, ht.cfg, ht.draws.trans (t.drawsAfter_after _), ?_⟩
  rw [State.advanceInputs_cyc, t.after_cyc, ht.cyc, hwords, seqCycles_scanOps, ht.cfg, Nat.add_assoc]
  rfl

/-- From just after the second CAPDIS into the next cycle, up to its first TBRUN. -/
theorem State.Inv.run_across_restart (h : s.Inv) (hu : s.upc.toNat = 29) (hn : n ≤ 20) (hr : NoReset (17 + n) s) :
    ∃ t, run (17 + n) s = .next t ∧ t.Inv ∧ t.upc.toNat = n ∧ t.cyc =
      s.cyc + (12 * s.cfg.opCycles + 4 * s.cfg.dwellCycles + s.cfg.reportCycles) + startCycles s.cfg n := by
  obtain ⟨v, hrestart, hinv, h0, hcfg, hdraws, hcyc⟩ := h.run_to_restart hu fun k hk => hr k (by omega)
  obtain ⟨t, hrun, ht⟩ := hinv.run_words (n := n) (hdraws.noReset hr le_rfl) (by omega) fun k hk => by omega
  refine ⟨t, run_trans hrestart hrun, ht.inv, by rw [ht.upc, h0, Nat.zero_add], ?_⟩
  rw [ht.cyc, hcyc, hcfg, h0]
  rfl

end

/-- Settles O40: the first span is one stretch of words; the second is a stretch up to REPORT and one from address 0,
and no address on either is between a CAPREL and its CAPDIS. -/
theorem dischargeTimeBeforeEachPass : Obligations.DischargeTimeBeforeEachPass := by
  unfold Obligations.DischargeTimeBeforeEachPass
  refine ⟨fun s h hu hr => ?_, fun s h hu hr => ?_⟩
  · have h22 : s.upc.toNat = 22 := by rw [hu]; rfl
    have hwords (k : Nat) (hk : k ≤ 3) : ∃ t, run k s = .next t ∧ s.WordsOn k t :=
      h.run_words (fun j hj => hr j (by omega)) (by omega) fun j hj => by omega
    refine ⟨?_, fun k hk => ?_⟩
    · obtain ⟨t, hrun, ht⟩ := hwords 3 le_rfl
      have h25 : t.upc.toNat = 25 := by rw [ht.upc, h22]
      have hops : (cycleOps.drop s.upc.toNat).take 3 = [.classify] ++ [ctlOp .high, .settle] := by rw [h22]; decide
      refine ⟨t, hrun, BitVec.eq_of_toNat_eq h25, ht.inv.fetch_caprel (.inr h25), ?_⟩
      rw [ht.cyc, hops, seqCycles_append, seqCycles_classify, seqCycles_ctlOp_settle, Nat.add_assoc]
    · obtain ⟨t, hrun, ht⟩ := hwords k hk
      exact ⟨t, hrun, ht.inv.caps_low (by rw [ht.upc]; omega)⟩
  · have h29 : s.upc.toNat = 29 := by rw [hu]; rfl
    refine ⟨?_, fun k hk => ?_⟩
    · obtain ⟨t, hrun, hinv, h18, hcyc⟩ := h.run_across_restart h29 (n := 18) (by omega) hr
      have hops : cycleOps.take 18 = scanOps ++ [ctlOp .rel, .settle] := by decide
      refine ⟨t, hrun, BitVec.eq_of_toNat_eq h18, hinv.fetch_caprel (.inl h18), ?_⟩
      rw [hcyc, startCycles, hops, seqCycles_append, seqCycles_scanOps, seqCycles_ctlOp_settle]
      omega
    · rcases Nat.lt_or_ge k 17 with hk17 | hk17
      · obtain ⟨t, hrun, ht⟩ := h.run_words (n := k) (fun j hj => hr j (by omega)) (by omega) fun j hj => by omega
        exact ⟨t, hrun, ht.inv.caps_low (by rw [ht.upc]; omega)⟩
      · obtain ⟨n, rfl⟩ := Nat.exists_eq_add_of_le hk17
        obtain ⟨t, hrun, hinv, hn, -⟩ := h.run_across_restart h29 (n := n) (by omega) fun j hj => hr j (by omega)
        exact ⟨t, hrun, hinv.caps_low (by rw [hn]; omega)⟩

end Sys2Proof.Machine
end

section
/-! What the requirements on a microprogram are for (70_reset_and_hazards.md R171, R172; 60_exceptions.md R141): the
check of R172 as a state that follows the words, the rows that can be driven there, and the run of a well-formed
microprogram, resets and restarts included. -/

namespace Sys2Proof.Machine

/-! ### The check of R172, word by word -/

/-- What the check of R172 has in hand before a word: the row last driven, and the row the word directly before
released. -/
structure RowCheck where
  last : Option RowIdx
  released : Option RowIdx

/-- Before the first word. -/
def RowCheck.start : RowCheck := ⟨none, none⟩

/-- The row a word releases. -/
def releasedBy : Instr → Option RowIdx
  | .rowrel r => some r
  | _ => none

/-- What the check has in hand after a word. -/
def RowCheck.after (k : RowCheck) : Instr → RowCheck
  | .rowdrv r => ⟨some r, none⟩
  | i => ⟨k.last, releasedBy i⟩

/-- The check lets a word pass. -/
def RowCheck.Allows (k : RowCheck) : Instr → Prop
  | .rowdrv _ => k.released.isSome = true ∧ (k.last = none ∨ k.released = k.last)
  | _ => True

/-- The check passes a list of words that begins where `k` is in hand. -/
def RowCheck.Passes (k : RowCheck) (p : List Instr) : Prop :=
  Program.releaseBeforeDrive k.last k.released p = true

theorem RowCheck.start_passes_iff (p : List Instr) :
    RowCheck.start.Passes p ↔ Program.releaseBeforeDrive none none p = true := Iff.rfl

section
variable {k : RowCheck} {p q : List Instr} {i : Instr}

theorem RowCheck.passes_nil : k.Passes [] := rfl

theorem RowCheck.passes_cons : k.Passes (i :: p) ↔ k.Allows i ∧ (k.after i).Passes p := by
  cases i with
  | rowdrv r => simp [RowCheck.Passes, RowCheck.Allows, RowCheck.after, Program.releaseBeforeDrive]
  | _ => exact (iff_of_eq (true_and _)).symm

theorem RowCheck.passes_append : k.Passes (p ++ q) ↔ k.Passes p ∧ (p.foldl RowCheck.after k).Passes q := by
  induction p generalizing k with
  | nil => exact (and_iff_right RowCheck.passes_nil).symm
  | cons i p ih => rw [List.cons_append, passes_cons, passes_cons, ih, and_assoc, List.foldl_cons]

/-- A list that passes has each of its words allowed where it stands. -/
theorem RowCheck.Passes.allows {u : Nat} (h : k.Passes p) (hi : p[u]? = some i) :
    ((p.take u).foldl RowCheck.after k).Allows i := by
  obtain ⟨hu, hi⟩ := List.getElem?_eq_some_iff.mp hi
  rw [← List.take_append_drop u p, List.drop_eq_getElem_cons hu, hi, passes_append, passes_cons] at h
  exact h.2.1

/-- Without a ROWDRV in between, the row last driven stays, and the row released is the last word's. -/
theorem RowCheck.foldl_of_no_rowdrv {last : Option RowIdx} (h : ∀ x, Instr.rowdrv x ∉ q) :
    q.foldl RowCheck.after ⟨last, none⟩ = ⟨last, q.getLast?.bind releasedBy⟩ := by
  induction q using List.reverseRecOn with
  | nil => rfl
  | append_singleton q i ih =>
    rw [List.foldl_append, ih fun x hx => h x (List.mem_append_left _ hx), List.getLast?_concat]
    cases i with
    | rowdrv r => exact absurd (List.mem_append_right q List.mem_cons_self) (h r)
    | _ => rfl

/-- The row last driven after a list is the same from every start, or is the start's if the list drives none. -/
theorem RowCheck.foldl_last (k : RowCheck) (p : List Instr) :
    (p.foldl RowCheck.after k).last = ((p.foldl RowCheck.after .start).last).or k.last := by
  induction p using List.reverseRecOn with
  | nil => rfl
  | append_singleton p i ih =>
    simp only [List.foldl_append, List.foldl_cons, List.foldl_nil]
    cases i with
    | rowdrv r => rfl
    | _ => exact ih

end

theorem releasedBy_eq_some_iff (i : Instr) (r : RowIdx) : releasedBy i = some r ↔ i = .rowrel r := by
  cases i with
  | rowrel x => simp [releasedBy]
  | _ => simp [releasedBy]

/-- The row the last word of a list releases. -/
theorem getLast?_bind_releasedBy (q : List Instr) (r : RowIdx) :
    q.getLast?.bind releasedBy = some r ↔ q.getLast? = some (.rowrel r) := by
  cases q.getLast? with
  | none => simp
  | some i => rw [Option.bind_some, releasedBy_eq_some_iff, Option.some.injEq]

/-- What a list that passes has directly before its first ROWDRV: a ROWREL, of the row last driven if one was. -/
theorem RowCheck.released_of_passes_rowdrv {last : Option RowIdx} {q l : List Instr} {r : RowIdx}
    (hq : ∀ x, Instr.rowdrv x ∉ q) (h : (⟨last, none⟩ : RowCheck).Passes (q ++ .rowdrv r :: l)) :
    ∃ x, q.getLast? = some (.rowrel x) ∧ (last = none ∨ last = some x) := by
  obtain ⟨-, h⟩ := passes_append.mp h
  rw [foldl_of_no_rowdrv hq] at h
  obtain ⟨⟨hsome, hor⟩, -⟩ := passes_cons.mp h
  obtain ⟨x, hx⟩ := Option.isSome_iff_exists.mp hsome
  refine ⟨x, (getLast?_bind_releasedBy q x).mp hx, hor.imp_right fun hsame => ?_⟩
  rw [← hx, hsame]

/-! ### The rows that can be driven -/

/-- The one row that can be driven is the row last driven, and not that if it was just released. -/
def RowCheck.Covers (k : RowCheck) (l : PerRow PullLine) : Prop :=
  ∀ r : RowIdx, l.get r = .low → k.last = some r ∧ k.released ≠ some r

theorem RowCheck.covers_of_released (k : RowCheck) {l : PerRow PullLine} (h : ∀ r, l.get r = .rel) : k.Covers l :=
  fun r hr => PullLine.noConfusion ((h r).symm.trans hr)

section
variable {k : RowCheck} {i : Instr}

/-- R172: a ROWDRV the check lets pass finds no row driven. -/
theorem RowCheck.Covers.released {l : PerRow PullLine} {r : RowIdx} (h : k.Covers l) (hi : k.Allows (.rowdrv r))
    (q : RowIdx) : l.get q = .rel := by
  cases hq : l.get q with
  | rel => rfl
  | low =>
    obtain ⟨hlast, hnot⟩ := h q hq
    obtain ⟨-, hnone | hsame⟩ := hi
    · rw [hlast] at hnone
      cases hnone
    · exact absurd (hsame.trans hlast) hnot

theorem RowCheck.Covers.after {l : PerRow PullLine} (h : k.Covers l) (hi : k.Allows i) :
    (k.after i).Covers (rowlAfter i l) := by
  intro q hq
  cases i with
  | rowrel r =>
    have hne : q ≠ r := by
      rintro rfl
      exact PullLine.noConfusion ((get_setAt_same l q .rel).symm.trans hq)
    exact ⟨(h q (get_setAt_other l .rel hne ▸ hq)).1, fun hr => hne (Option.some.inj hr).symm⟩
  | rowdrv r =>
    have hqr : q = r := by_contra fun hne =>
      PullLine.noConfusion ((h.released hi q).symm.trans (get_setAt_other l .low hne ▸ hq))
    exact ⟨congrArg some hqr.symm, fun hr => nomatch hr⟩
  | _ => exact ⟨(h q hq).1, fun hr => nomatch hr⟩

theorem RowCheck.Covers.accepts {s : State} (h : k.Covers s.rowl) (hi : k.Allows i) (hb : i ≠ .tbrun) :
    s.Accepts i := by
  cases i with
  | rowdrv r => exact State.accepts_rowdrv fun q _ => h.released hi q
  | tbrun => exact absurd rfl hb
  | _ => trivial

end

/-- R106, R172: a list of operations that passes the check is not refused for contention; it is refused at a TBRUN
alone, with another reason. -/
theorem execAll_ne_rowContention {k : RowCheck} {p : List Instr} {s : State} (hp : k.Passes p)
    (h : k.Covers s.rowl) : execAll p s ≠ .refused .rowContention := by
  induction p generalizing k s with
  | nil => exact fun hx => nomatch hx
  | cons i p ih =>
    obtain ⟨hi, hp⟩ := RowCheck.passes_cons.mp hp
    by_cases hacc : s.Accepts i
    · have hx := (exec_eq_next_iff i s _).mpr ⟨hacc, rfl⟩
      simp only [execAll, hx]
      exact ih hp (s.after_rowl i ▸ h.after hi)
    · have hb : i = .tbrun := by_contra fun hb => hacc (h.accepts hi hb)
      subst hb
      have hx := exec_tbrun_of_ge (Nat.le_of_not_lt hacc)
      simp only [execAll, hx]
      exact fun hx => nomatch hx

/-- Settles O55: at a ROWDRV the check has in hand the row last driven and the row the last word released; the rows that
can be driven are within what it has in hand. -/
theorem releaseBeforeDriveExcludesContention : Obligations.ReleaseBeforeDriveExcludesContention := by
  unfold Obligations.ReleaseBeforeDriveExcludesContention
  refine ⟨fun p q l r r' hq hne => Bool.eq_false_iff.mpr fun hp => ?_,
    fun q l r hq hne => Bool.eq_false_iff.mpr fun hp => ?_, by decide, fun p s hp hrel => ?_⟩
  · obtain ⟨-, hp⟩ := RowCheck.passes_append.mp ((RowCheck.start_passes_iff _).mpr hp)
    obtain ⟨-, hp⟩ := RowCheck.passes_cons.mp hp
    obtain ⟨x, hlast, hnone | hsame⟩ := RowCheck.released_of_passes_rowdrv hq hp
    · cases hnone
    · exact hne (Option.some.inj hsame ▸ hlast)
  · obtain ⟨x, hlast, -⟩ := RowCheck.released_of_passes_rowdrv hq ((RowCheck.start_passes_iff _).mpr hp)
    exact hne x hlast
  · exact execAll_ne_rowContention ((RowCheck.start_passes_iff p).mpr hp) (RowCheck.start.covers_of_released hrel)

end Sys2Proof.Machine
end

section
/-! The run of a well-formed microprogram (70_reset_and_hazards.md R171, R172; 60_exceptions.md R141), resets and
restarts included. `State.Runs` is what every state of such a run is like. -/

namespace Sys2Proof.Machine

/-! ### The check of R171 -/

theorem passesArmed_cons (armed : Bool) (i : Instr) (p : List Instr) :
    Program.passesArmed armed (i :: p) = true ↔
      (i = .tbrun → armed = true) ∧ Program.passesArmed (decide (i = .tbrst)) p = true := by
  cases i <;> simp [Program.passesArmed]

/-- At the beginning of a list a TBRUN passes only where it is armed. -/
theorem armed_of_passesArmed {armed : Bool} {p : List Instr} (h : Program.passesArmed armed p = true)
    (h0 : p[0]? = some .tbrun) : armed = true := by
  cases p with
  | nil => cases h0
  | cons i p => exact ((passesArmed_cons armed i p).mp h).1 (Option.some.inj h0)

/-- R171: the word directly before a TBRUN is a TBRST. -/
theorem tbrst_of_passesArmed {armed : Bool} {p : List Instr} {u : Nat} (h : Program.passesArmed armed p = true)
    (hu : p[u + 1]? = some .tbrun) : p[u]? = some .tbrst := by
  induction p generalizing armed u with
  | nil => cases hu
  | cons i p ih =>
    obtain ⟨-, hp⟩ := (passesArmed_cons armed i p).mp h
    cases u with
    | zero => exact congrArg some (of_decide_eq_true (armed_of_passesArmed hp hu))
    | succ u => exact ih hp hu

/-- What of the check on a microprogram bears on the refusals of the machine (R77, R81 f, R106). -/
theorem checks_of_wellFormed {p : List Instr} (h : Program.wellFormed p = true) :
    p.length ≤ 46 ∧ Program.passesArmed false p = true ∧ RowCheck.start.Passes p ∧
      RowCheck.start.Passes (Program.executed p) := by
  simp only [Program.wellFormed, Program.ordered, Program.fits, Bool.and_eq_true, decide_eq_true_eq] at h
  obtain ⟨⟨⟨-, hlen⟩, ⟨⟨⟨harmed, hrows⟩, -⟩, -⟩, -⟩, ⟨⟨⟨-, hexec⟩, -⟩, -⟩, -⟩ := h
  exact ⟨hlen, harmed, hrows, hexec⟩

/-! ### The rounds of a microprogram (R128) -/

section
variable {p : List Instr} {k : RowCheck} {i : Instr} {n u : Nat}

/-- A round is the words up to and with the first REPORT. -/
theorem round?_eq_take {c : List Instr} (h : Program.round? p = some c) :
    ∃ n, c = p.take (n + 1) ∧ p[n]? = some .report ∧ .report ∉ p.take n := by
  obtain ⟨q, l, rfl, rfl, hq⟩ := round?_eq_some h
  exact ⟨q.length, by simp [List.take_append], by simp, by simpa using hq⟩

/-- An address no REPORT stands before is at most that of any REPORT. -/
theorem le_of_report_notMem_take (hn : p[n]? = some .report) (hu : .report ∉ p.take u) : u ≤ n := by
  by_contra hlt
  refine hu (List.mem_of_getElem? (i := n) ?_)
  rw [List.getElem?_take_of_lt (by omega), hn]

theorem round?_of_report (hi : p[u]? = some .report) (hu : .report ∉ p.take u) :
    Program.round? p = some (p.take (u + 1)) := by
  obtain ⟨c, hc⟩ := Option.isSome_iff_exists.mp ((round?_isSome_iff p).mpr (List.mem_of_getElem? hi))
  obtain ⟨n, rfl, hn, hfirst⟩ := round?_eq_take hc
  rw [hc, le_antisymm (le_of_report_notMem_take hn hu) (le_of_report_notMem_take hi hfirst)]

/-- What the check of R172 has in hand at the start of a round: nothing, or what one round leaves. -/
def RoundStart (p : List Instr) (k : RowCheck) : Prop :=
  k = .start ∨ ∃ c, Program.round? p = some c ∧ k = c.foldl RowCheck.after .start

/-- The words of every round are let pass: the first round's in address order, a later one's as the second's. -/
theorem RoundStart.allows (hk : RoundStart p k) (hp : RowCheck.start.Passes p)
    (hx : RowCheck.start.Passes (Program.executed p)) (hu : .report ∉ p.take u) (hi : p[u]? = some i) :
    ((p.take u).foldl RowCheck.after k).Allows i := by
  obtain rfl | ⟨c, hc, rfl⟩ := hk
  · exact hp.allows hi
  · have hexec : Program.executed p = c ++ c := by rw [Program.executed, hc]
    obtain ⟨-, hsecond⟩ := RowCheck.passes_append.mp (hexec ▸ hx)
    obtain ⟨n, rfl, hn, -⟩ := round?_eq_take hc
    have hle := le_of_report_notMem_take hn hu
    have hi' : (p.take (n + 1))[u]? = some i := by rw [List.getElem?_take_of_lt (by omega), hi]
    have hallows := hsecond.allows hi'
    rwa [List.take_take, min_eq_left (by omega)] at hallows

theorem foldl_take_succ (k : RowCheck) (hi : p[u]? = some i) :
    (p.take (u + 1)).foldl RowCheck.after k = ((p.take u).foldl RowCheck.after k).after i := by
  rw [List.take_add_one, hi, List.foldl_append]
  rfl

/-- Every round after the first starts alike: what a round drives last is the same from every start. -/
theorem RoundStart.restart (hk : RoundStart p k) (hi : p[u]? = some .report) (hu : .report ∉ p.take u) :
    RoundStart p (((p.take u).foldl RowCheck.after k).after .report) := by
  have hround := round?_of_report hi hu
  refine .inr ⟨_, hround, ?_⟩
  have hlast : ((p.take u).foldl RowCheck.after k).last = ((p.take u).foldl RowCheck.after .start).last := by
    obtain rfl | ⟨c, hc, rfl⟩ := hk
    · rfl
    · cases hc.symm.trans hround
      rw [RowCheck.foldl_last, foldl_take_succ _ hi]
      exact Option.or_self
  rw [foldl_take_succ _ hi]
  exact congrArg (fun last => (⟨last, none⟩ : RowCheck)) hlast

end

/-! ### The states of a run -/

/-- What holds in every state of a run of the microprogram `p`: no REPORT stands before `UPC`, a TBRUN at `UPC` has a
meaning, and the driven rows are within what the check of R172 has in hand there. -/
structure State.Runs (s : State) (p : List Instr) : Prop where
  rom : s.rom = p.map encode
  before : .report ∉ p.take s.upc.toNat
  tick : p[s.upc.toNat]? = some .tbrun → s.tick.toNat < 228
  rows : ∃ k, RoundStart p k ∧ ((p.take s.upc.toNat).foldl RowCheck.after k).Covers s.rowl

/-- The runs do not speak of the draws. -/
theorem State.Runs.advanceInputs {s : State} {p : List Instr} (h : s.Runs p) : s.advanceInputs.Runs p :=
  ⟨h.rom, h.before, h.tick, h.rows⟩

section
variable {p : List Instr} {s : State} {i : Instr} (hwf : Program.wellFormed p = true)
include hwf

/-- A run begins at address 0 with no row driven: the first word is no TBRUN. -/
theorem State.runs_of_start (hrom : s.rom = p.map encode) (hu : s.upc.toNat = 0) (hrel : ∀ r, s.rowl.get r = .rel) :
    s.Runs p where
  rom := hrom
  before := by simp [hu]
  tick := fun h0 => by
    obtain ⟨-, harmed, -⟩ := checks_of_wellFormed hwf
    rw [hu] at h0
    exact absurd (armed_of_passesArmed harmed h0) (by simp)
  rows := ⟨.start, .inl rfl, RowCheck.covers_of_released _ hrel⟩

theorem State.Runs.accepts (h : s.Runs p) (hi : p[s.upc.toNat]? = some i) : s.Accepts i := by
  obtain ⟨-, -, hp, hx⟩ := checks_of_wellFormed hwf
  obtain ⟨k, hk, hrows⟩ := h.rows
  by_cases hb : i = .tbrun
  · subst hb
    exact h.tick hi
  · exact hrows.accepts (hk.allows hp hx h.before hi) hb

/-- On to the next address. -/
theorem State.Runs.next (h : s.Runs p) (hi : p[s.upc.toNat]? = some i) (hr : i ≠ .report)
    (hup : (s.after i).upc.toNat = s.upc.toNat + 1) : (s.after i).Runs p := by
  obtain ⟨-, harmed, hp, hx⟩ := checks_of_wellFormed hwf
  obtain ⟨k, hk, hrows⟩ := h.rows
  refine ⟨(s.after_rom i).trans h.rom, ?_, fun hrun => ?_, k, hk, ?_⟩
  · rw [hup, List.take_add_one, hi]
    simpa [hr.symm] using h.before
  · rw [hup] at hrun
    cases hi.symm.trans (tbrst_of_passesArmed harmed hrun)
    exact Nat.zero_lt_succ 227
  · rw [hup, foldl_take_succ k hi, s.after_rowl]
    exact hrows.after (hk.allows hp hx h.before hi)

/-- Back to address 0. -/
theorem State.Runs.restart (h : s.Runs p) (hi : p[s.upc.toNat]? = some .report) : (s.after .report).Runs p := by
  obtain ⟨-, harmed, hp, hx⟩ := checks_of_wellFormed hwf
  obtain ⟨k, hk, hrows⟩ := h.rows
  exact {
    rom := h.rom
    before := List.not_mem_nil
    tick := fun h0 => absurd (armed_of_passesArmed harmed h0) (by simp)
    rows := ⟨_, hk.restart hi h.before, hrows.after (hk.allows hp hx h.before hi)⟩ }

/-- The operation of a well-formed microprogram at `UPC` leads to a state of its run. -/
theorem State.Runs.after (h : s.Runs p) (hi : p[s.upc.toNat]? = some i) : (s.after i).Runs p := by
  obtain ⟨hlen, -⟩ := checks_of_wellFormed hwf
  obtain ⟨hu, -⟩ := List.getElem?_eq_some_iff.mp hi
  have hnext : (s.upc + 1).toNat = s.upc.toNat + 1 := upc_succ_toNat (by omega)
  by_cases hr : i = .report
  · subst hr
    exact h.restart hwf hi
  by_cases hb : i = .tbrun
  · subst hb
    have ht := h.tick hi
    have hup := s.after_tbrun_upc
    split at hup
    · exact h.next hwf hi hr (hup ▸ hnext)
    · have htick := State.after_tbrun_tick_toNat ht
      exact ⟨h.rom, hup ▸ h.before, fun _ => by omega, hup ▸ h.rows⟩
  · exact h.next hwf hi hr (by rw [s.after_upc hb hr, hnext])

/-- A step leads to a state of the run, or it is refused beyond the last word, which is possible only without a
REPORT. -/
theorem State.Runs.step (h : s.Runs p) :
    (∃ t, step s = .next t ∧ t.Runs p) ∨ (step s = .refused .upcOutOfRom ∧ .report ∉ p) := by
  obtain ⟨hlen, -⟩ := checks_of_wellFormed hwf
  cases hr : s.draw.rst with
  | true =>
    exact .inl ⟨_, (step_eq_next_iff _ _).mpr (.inl ⟨hr, rfl⟩),
      State.runs_of_start hwf h.rom rfl State.reset_rowl_get⟩
  | false =>
    by_cases hu : s.upc.toNat < p.length
    · have hi := List.getElem?_eq_getElem hu
      have hf := State.fetch_of_assembled hlen h.rom hu
      exact .inl ⟨_, (step_eq_next_iff _ _).mpr (.inr ⟨hr, _, _, hf,
        (exec_eq_next_iff _ _ _).mpr ⟨h.accepts hwf hi, rfl⟩, rfl⟩), (h.after hwf hi).advanceInputs⟩
    · have hge : p.length ≤ s.upc.toNat := Nat.le_of_not_lt hu
      have hbeyond : s.rom.length ≤ s.upc.toNat := by rwa [h.rom, List.length_map]
      exact .inr ⟨step_of_fetch_error hr (State.fetch_beyond_rom hbeyond), List.take_of_length_le hge ▸ h.before⟩

theorem State.Runs.run (h : s.Runs p) (k : Nat) :
    (∃ t, run k s = .next t) ∨ (run k s = .refused .upcOutOfRom ∧ .report ∉ p) := by
  induction k generalizing s with
  | zero => exact .inl ⟨s, run_zero s⟩
  | succ k ih =>
    rcases h.step hwf with ⟨t, hstep, ht⟩ | ⟨hstep, hno⟩
    · rw [run_succ hstep]
      exact ih ht
    · exact .inr ⟨by rw [run_succ_eq, hstep], hno⟩

end

/-- Settles O56: every state of the run is as `State.Runs` says, so its steps are refused at most beyond the end. -/
theorem wellFormedProgramsNeverStop : Obligations.WellFormedProgramsNeverStop := by
  unfold Obligations.WellFormedProgramsNeverStop
  intro p s hwf hrom hu hrel
  have hrun := (State.runs_of_start hwf hrom (congrArg BitVec.toNat hu) hrel).run hwf
  refine ⟨fun k e he => ?_, fun hreport k => (hrun k).resolve_right fun h => h.2 hreport⟩
  rcases hrun k with ⟨t, ht⟩ | ⟨hrefused, -⟩
  · cases he.symm.trans ht
  · cases he.symm.trans hrefused
    rfl

end Sys2Proof.Machine
end
